-- ==== Sys2Proof/Word.lean ====
section
/-! DEFINITION. The words of the IS-40: bytes on the Planner Link, ticks of the service clock, audio
samples, and the bit images of the chest and sense chains. -/

namespace Sys2Proof

/-- One character of the Planner Link, and one byte of the library's block storage (R27, R194). -/
abbrev Byte := BitVec 8

/-- A value of the service clock, a 32-bit count of milliseconds (R1). -/
abbrev Tick := BitVec 32

/-- One audio sample, a 16-bit two's-complement number (R68). -/
abbrev Sample := BitVec 16

/-- One bit for each chest-chain output; bit i is output i. 64 boards of 16 outputs is the longest
chain a survey can measure (R14, R20). -/
abbrev ChestImage := BitVec 1024

/-- One bit for each sense index 0 to 63 (R5, R21). -/
abbrev SenseImage := BitVec 64

/-- A set of event latches, bit n being latch n of R201. -/
abbrev LatchSet := BitVec 19

/-- A set of stop indexes 0 to 15 (R61). -/
abbrev StopSet := BitVec 16

/-- A set of score voices 0 to 5 (R154). -/
abbrev VoiceSet := BitVec 6

end Sys2Proof
end

