-- ==== Sys2Proof/Config.lean ====
section
/-! DEFINITION. The sizes the manual fixes for every IS-40, and the free values: choices the manual
leaves open, as constants without a body, so that no proof can rest on one of the outcomes. -/

namespace Sys2Proof.Config

/-- Division places 0 to 3 (R3). -/
def divisionPlaces : Nat := 4
/-- Directory entries 0 to 47 (R27). -/
def libraryEntries : Nat := 48
/-- Blocks 0 to 255 of the library's storage (R29). -/
def libraryBlocks : Nat := 256
/-- Bytes in a block (R27). -/
def blockBytes : Nat := 256
/-- Items the service list holds at most (R52). -/
def serviceItems : Nat := 24
/-- Registration records 0 to 31 (R61). -/
def registrations : Nat := 32
/-- Score voices 0 to 5 (R31). -/
def voices : Nat := 6
/-- Microphone channels 0 to 3 (R71). -/
def channels : Nat := 4
/-- Slots of the Keying Table (R154). -/
def keyingSlots : Nat := 128
/-- Counters 0 to 38 (R204). -/
def counters : Nat := 39
/-- A counter saturates here (00, Conventions). -/
def counterLimit : Nat := 65535
/-- The highest score position in pulses (R31). -/
def lastPosition : Nat := 16777215
/-- Every stored time lies within this many ticks of the service clock: 2^20 (R1). -/
def timeSpan : Nat := 1048576
/-- The tracker rebases, and a hold is limited, at this many ticks: 2^19 (R111, R123). -/
def rebaseSpan : Nat := 524288
/-- 240 pulses to a beat times 256 period units to a tick (00, Units). -/
def pulseUnits : Nat := 61440

/-- FREE VALUE (log 4). When a re-timing makes both on times and off times due at one tick, R157
gives both orders of taking them: this says whether the off times are taken first at that tick. -/
opaque releasesFirst : Tick → Bool

/-- FREE VALUE (log 18). When both channels of an input make reports at one tick, either report may
reach the matcher first (R81, R98): this says whether the second channel's does. -/
opaque secondChannelFirst : Tick → Bool

/-- FREE VALUE (log 19). The scan that finds the third miss also delivers a sense image, and the
manual does not order the two: this says whether the sense read comes first at that tick. -/
opaque senseReadFirst : Tick → Bool

/-- FREE VALUE (log 15). A reject's detail names one failing stop, division or voice (R7, R62); when
several fail, the manual does not say which one: this number, modulo how many there are, says it. -/
opaque failureNamed : Tick → Nat

end Sys2Proof.Config
end

