-- ==== Sys2Proof/Syntax.lean ====
section
/-! DEFINITION. The commands of the IS-40, one constructor for each row of spec/opcode_table.json.
A request carries the fields of its frame's body as numbers a body can hold (R199), so that a value
outside a field's range reaches the test that refuses or clamps it. An event carries what the outside
brings (a character, the bits that return on CHRET, the samples of a pair) or the number of the thing
whose time has come. -/

namespace Sys2Proof

/-- The three assignments of a stop (R5). -/
structure StopWiring where
  onMagnet : Nat
  offMagnet : Nat
  sense : Nat
deriving DecidableEq, Repr

/-- The division record of DIVISION PUT (R3). A tuning field marked as not given is `none`. The swell
output is the code of the table's list none, 0, 1 (log 13). -/
structure DivisionArg where
  lowest : Nat
  keys : Nat
  firstOutput : Nat
  stopCount : Nat
  stops : List StopWiring
  transport : Option Nat
  articulation : Option Nat
  repeatGap : Option Nat
  swell : Nat
deriving DecidableEq, Repr

/-- The six values of ORGAN PUT (R11). -/
structure OrganArg where
  minSpeak : Nat
  cipherGuard : Nat
  pulseTime : Nat
  stopTimeout : Nat
  levelLow : Nat
  levelHigh : Nat
deriving DecidableEq, Repr

/-- A tempo override (R51). -/
structure TempoOverride where
  period : Nat
  least : Option Nat
  greatest : Option Nat
deriving DecidableEq, Repr

/-- The service item of ITEM PUT and ITEM REPLACE (R50). -/
structure ItemArg where
  tuneId : Nat
  verseCount : Nat
  giveOutMode : Nat
  giveOutReg : Option Nat
  verseRegs : List Nat
  amenFlag : Nat
  tempo : Option TempoOverride
  endAction : Nat
  introGap : Option Nat
  verseGap : Option Nat
deriving DecidableEq, Repr

/-- A route of a voice (R61). -/
structure Route where
  division : Nat
  shift : Int
deriving DecidableEq, Repr

/-- A division entry of a registration (R61). -/
structure DivisionEntry where
  drawn : StopSet
  least : Nat
  greatest : Nat
deriving DecidableEq, Repr

/-- A registration record: entries for divisions 0 to 3 and route lists for voices 0 to 5 (R61). -/
structure Registration where
  divisions : List DivisionEntry
  voices : List (List Route)
deriving DecidableEq, Repr

/-- The seven parameters of MIC PUT (R71); `enabled` is the byte that was sent. -/
structure MicArg where
  enabled : Nat
  acousticDelay : Nat
  rise : Nat
  floor : Nat
  refractory : Nat
  ratio : Nat
  confirm : Nat
deriving DecidableEq, Repr

/-- The seven parameters of TRACK PUT (R112). -/
structure TrackArg where
  phaseGain : Nat
  tempoGain : Nat
  stepLimit : Nat
  missLimit : Nat
  window : Nat
  breath : Nat
  holdFactor : Nat
deriving DecidableEq, Repr

/-- The two forms of TUNE QUERY, and a form byte that is neither 0 nor 1 with the bytes after it
(R46, R199). -/
inductive TuneRef where
  | byId (tuneId : Nat)
  | byEntry (entry : Nat)
  | badForm (form : Byte) (rest : List Byte)
deriving DecidableEq, Repr

/-- The two forms of KEY RELEASE and KEY LOOKUP, and a form byte that is neither (R171, R173, R199). -/
inductive KeyRef where
  | bySlot (slot : Nat)
  | byKey (division key : Nat)
  | badForm (form : Byte) (rest : List Byte)
deriving DecidableEq, Repr

/-- A character of the Planner Link as it arrives: its data bits, and the level of its stop bit (R194). -/
structure Character where
  data : Byte
  stop : Bool
deriving DecidableEq, Repr

/-- A frame as it stands on the line, between its length byte and its end: the code and body bytes,
whose number is the length, and the check byte (R206). -/
structure RawFrame where
  bytes : List Byte
  check : Byte
deriving DecidableEq, Repr

/-- The three cue inputs, in the order of R148 to R150. -/
inductive Button where
  | go | hold | stop
deriving DecidableEq, Repr

/-- Which of the apply record's two ticks an expiry concerns (R181). -/
inductive ApplyTick where
  | start | stop
deriving DecidableEq, Repr

/-- The commands. -/
inductive Instr where
  /-- POWER_RESET (R205): power is applied. -/
  | powerReset
  /-- PIN_RESET (R205): RESETn is low. -/
  | pinReset
  /-- PARTIAL_FRAME_BYTE (R194, R195): a character arrives. -/
  | partialFrameByte (c : Character)
  /-- FRAME_GAP_EXPIRY (R195). -/
  | frameGapExpiry
  /-- FRAME_REJECTED (R196): a frame completes that fails an examination. -/
  | frameRejected (f : RawFrame)
  /-- FRAME_WHILE_BUSY (R198): a frame completes while the link is busy. -/
  | frameWhileBusy (f : RawFrame)
  /-- ANSWER_SENT (R198): the last byte of the answer has been sent. `rateHigh` is the level of the
  strap RATE, read when the answer was RESET's reply and a REQUEST reset ends here (R194, R205). -/
  | answerSent (rateHigh : Bool)
  /-- STATUS (R200). -/
  | status
  /-- RESET (R205). -/
  | reset
  /-- DIVISION_PUT (R7). -/
  | divisionPut (division : Nat) (record : DivisionArg)
  /-- DIVISION_CLEAR (R9). -/
  | divisionClear (division : Nat)
  /-- DIVISION_QUERY (R10). -/
  | divisionQuery (division : Nat)
  /-- ORGAN_PUT (R11). -/
  | organPut (values : OrganArg)
  /-- SURVEY (R16). -/
  | survey
  /-- CLOSING_SEQUENCE_COMPLETE (R15). -/
  | closingSequenceComplete
  /-- RESET_CLEARING_SHIFT_COMPLETE (R26). -/
  | resetClearingShiftComplete
  /-- SURVEY_RETURN (R17): the one returns on CHRET at this count. -/
  | surveyReturn (count : Nat)
  /-- SURVEY_NO_RETURN (R17): the count reaches 1,024 with no return. -/
  | surveyNoReturn
  /-- SCAN_START (R19). -/
  | scanStart
  /-- SCAN_COMPLETE (R22): the bits that came back on CHRET, bit i being the bit for output i, and the
  bits read on SNDAT, bit i being sense index i. -/
  | scanComplete (returned : ChestImage) (sense : SenseImage)
  /-- TUNE_OPEN (R33). -/
  | tuneOpen (tuneId length : Nat)
  /-- TUNE_DATA (R35). -/
  | tuneData (bytes : List Byte)
  /-- VALIDATION_SUCCESS (R41). -/
  | validationSuccess
  /-- VALIDATION_FAILURE (R42). -/
  | validationFailure
  /-- TUNE_ABORT (R44). -/
  | tuneAbort (tuneId : Nat)
  /-- TUNE_RETIRE (R45). -/
  | tuneRetire (tuneId : Nat)
  /-- TUNE_QUERY (R46). -/
  | tuneQuery (which : TuneRef)
  /-- LOAD_RESULT (R43). -/
  | loadResult
  /-- ITEM_PUT (R54). -/
  | itemPut (index : Nat) (item : ItemArg)
  /-- ITEM_REPLACE (R56). -/
  | itemReplace (index : Nat) (item : ItemArg)
  /-- ITEM_REMOVE (R57). -/
  | itemRemove (index : Nat)
  /-- ITEM_QUERY (R58). -/
  | itemQuery (index : Nat)
  /-- REG_PUT (R62). -/
  | regPut (index : Nat) (reg : Registration)
  /-- REG_QUERY (R66). -/
  | regQuery (index : Nat)
  /-- MIC_PUT (R72). -/
  | micPut (channel : Nat) (params : MicArg)
  /-- MIC_QUERY (R85). -/
  | micQuery (channel : Nat)
  /-- SAMPLE_PAIR_COMPLETE (R68): the bits of a low word and of the high word after it, in the order
  they arrived, on input A (0) or B (1). -/
  | samplePairComplete (input : Nat) (low high : List Bool)
  /-- INPUT_LOST (R70). -/
  | inputLost (input : Nat)
  /-- LAST_ONSET_EXPIRY (R76). -/
  | lastOnsetExpiry (channel : Nat)
  /-- LAST_RELEASE_EXPIRY (R76). -/
  | lastReleaseExpiry (channel : Nat)
  /-- MATCH_PUT (R93). -/
  | matchPut (mode mergeWindow : Nat)
  /-- CANDIDATE_EXPIRY (R101). -/
  | candidateExpiry (channel : Nat)
  /-- WINDOW_CLOSE_EXPIRY (R91). -/
  | windowCloseExpiry
  /-- MATCHED_TIME_EXPIRY (R88). -/
  | matchedTimeExpiry (anchor : Nat)
  /-- TRACK_PUT (R112). -/
  | trackPut (params : TrackArg)
  /-- TRACK_QUERY (R128): a part, and for part 3 a starting anchor index that may be left out. -/
  | trackQuery (part : Nat) (start : Option Nat)
  /-- REBASE (R111). -/
  | rebase
  /-- FERMATA_EXPIRY (R121). -/
  | fermataExpiry
  /-- MAXIMUM_END_EXPIRY (R126). -/
  | maximumEndExpiry
  /-- LAST_MATCHED_ANCHOR_EXPIRY (R107). -/
  | lastMatchedAnchorExpiry
  /-- REFERENCE_TIME_EXPIRY (R107). -/
  | referenceTimeExpiry
  /-- PLAY (R132). -/
  | play (index startMode : Nat)
  /-- GAP_END (R137). -/
  | gapEnd
  /-- SCHEDULING_EXPIRY (R140). -/
  | schedulingExpiry
  /-- STOP_ITEM (R150). -/
  | stopItem
  /-- CANCEL_ALL (R174). -/
  | cancelAll
  /-- READER_PUT (R151). -/
  | readerPut (horizon : Nat)
  /-- CUE_CONTACT_CLOSED (R147): the input is read closed at this tick. -/
  | cueContactClosed (button : Button)
  /-- CUE_CONTACT_OPENED (R147): the input is read open at this tick. -/
  | cueContactOpened (button : Button)
  /-- CUE_DEBOUNCE_EXPIRY (R147). -/
  | cueDebounceExpiry (button : Button)
  /-- LAST_CUE_EXPIRY (R131). -/
  | lastCueExpiry
  /-- ON_TIME_EXPIRY (R156). -/
  | onTimeExpiry (slot : Nat)
  /-- OFF_TIME_EXPIRY (R158). -/
  | offTimeExpiry (slot : Nat)
  /-- DEADLINE_EXPIRY (R169). -/
  | deadlineExpiry (slot : Nat)
  /-- KEY_LOOKUP (R173). -/
  | keyLookup (which : KeyRef)
  /-- KEY_LIST (R173): the starting slot may be left out (R199). -/
  | keyList (start : Option Nat)
  /-- KEY_SOUND (R170). -/
  | keySound (division key duration : Nat)
  /-- KEY_RELEASE (R171). -/
  | keyRelease (which : KeyRef)
  /-- KEY_HOLD (R172). -/
  | keyHold (slot : Nat)
  /-- STOPS_APPLY (R182). -/
  | stopsApply (registration : Nat)
  /-- PULSE_END_EXPIRY (R184). -/
  | pulseEndExpiry (division stop : Nat)
  /-- STOP_TIMEOUT_EXPIRY (R184). -/
  | stopTimeoutExpiry (division stop : Nat)
  /-- APPLY_TICK_EXPIRY (R181). -/
  | applyTickExpiry (which : ApplyTick)
  /-- STOPS_QUERY (R188): the starting stop may be left out (R199). -/
  | stopsQuery (division : Nat) (start : Option Nat)
  /-- SWELL_PUT (R190). -/
  | swellPut (output slew : Nat)
  /-- SWELL_UPDATE (R191). -/
  | swellUpdate
  /-- SWELL_PERIOD_START (R192). -/
  | swellPeriodStart
  /-- EVENTS_READ (R202). -/
  | eventsRead
  /-- EVENTS_ACK (R202): the three bytes of a latch set, as one number. -/
  | eventsAck (set : BitVec 24)
  /-- EVENTS_MASK (R203). -/
  | eventsMask (set : BitVec 24)
  /-- EVENTS_FORCE (R203). -/
  | eventsForce (set : BitVec 24)
  /-- COUNTERS_READ (R204): the starting index may be left out. -/
  | countersRead (start : Option Nat)
  /-- COUNTERS_CLEAR (R204). -/
  | countersClear
  /-- RESET_END (R26): RESETn returns high, with the level of the strap RATE (R194). -/
  | resetEnd (rateHigh : Bool)
deriving DecidableEq, Repr

end Sys2Proof
end

