-- ==== Sys2Proof/WellFormed.lean ====
section
/-! DEFINITION. Which commands can reach the part: a request's fields fit the bytes their body gives
them and the body fits a frame (R199, R206), and an event names a thing the part has. A value that fits
its bytes but lies outside its field's range is well formed: the block's own tests refuse or clamp it. -/

namespace Sys2Proof

/-- The number fits k bytes. -/
def fitsBytes (k n : Nat) : Bool := decide (n < 256 ^ k)

/-- A number that may be absent fits k bytes. -/
def optFitsBytes (k : Nat) : Option Nat → Bool
  | none => true
  | some n => fitsBytes k n

/-- A stop entry is 9, 9 and 6 bits (R199). -/
def StopWiring.wf (w : StopWiring) : Bool :=
  decide (w.onMagnet < 512) && decide (w.offMagnet < 512) && decide (w.sense < 64)

/-- The body of 13 bytes and 3 for each stop is at most 63 bytes. The stop count and the length of the stop
list are two numbers, which R7 compares. -/
def DivisionArg.wf (a : DivisionArg) : Bool :=
  fitsBytes 1 a.lowest && fitsBytes 1 a.keys && fitsBytes 2 a.firstOutput &&
  fitsBytes 1 a.stopCount && decide (a.stops.length ≤ 16) && a.stops.all StopWiring.wf &&
  optFitsBytes 2 a.transport && optFitsBytes 1 a.articulation && optFitsBytes 1 a.repeatGap &&
  fitsBytes 1 a.swell

def OrganArg.wf (a : OrganArg) : Bool :=
  fitsBytes 1 a.minSpeak && fitsBytes 2 a.cipherGuard && fitsBytes 1 a.pulseTime &&
  fitsBytes 2 a.stopTimeout && fitsBytes 3 a.levelLow && fitsBytes 3 a.levelHigh

def TempoOverride.wf (o : TempoOverride) : Bool :=
  fitsBytes 3 o.period && optFitsBytes 3 o.least && optFitsBytes 3 o.greatest

/-- The body has 23 bytes and one for each verse registration, at most 63. -/
def ItemArg.wf (a : ItemArg) : Bool :=
  fitsBytes 2 a.tuneId && fitsBytes 1 a.verseCount && fitsBytes 1 a.giveOutMode &&
  optFitsBytes 1 a.giveOutReg && decide (a.verseRegs.length ≤ 40) && a.verseRegs.all (fitsBytes 1) &&
  fitsBytes 1 a.amenFlag && (match a.tempo with | none => true | some o => o.wf) &&
  fitsBytes 1 a.endAction && optFitsBytes 2 a.introGap && optFitsBytes 2 a.verseGap

/-- A route is a byte and a signed byte (R199). -/
def Route.wf (r : Route) : Bool :=
  fitsBytes 1 r.division && decide (-128 ≤ r.shift) && decide (r.shift < 128)

def DivisionEntry.wf (e : DivisionEntry) : Bool := fitsBytes 2 e.least && fitsBytes 2 e.greatest

/-- How many routes a registration carries in all. -/
def Registration.routeCount (r : Registration) : Nat := (r.voices.map List.length).sum

/-- Four division entries, six voice entries, and a body of 31 bytes and 2 for each route, at most 63. -/
def Registration.wf (r : Registration) : Bool :=
  decide (r.divisions.length = Config.divisionPlaces) && r.divisions.all DivisionEntry.wf &&
  decide (r.voices.length = Config.voices) && r.voices.all (fun l => l.all Route.wf) &&
  decide (r.routeCount ≤ 16)

def MicArg.wf (a : MicArg) : Bool :=
  fitsBytes 1 a.enabled && fitsBytes 1 a.acousticDelay && fitsBytes 1 a.rise && fitsBytes 3 a.floor &&
  fitsBytes 2 a.refractory && fitsBytes 1 a.ratio && fitsBytes 1 a.confirm

def TrackArg.wf (a : TrackArg) : Bool :=
  fitsBytes 1 a.phaseGain && fitsBytes 1 a.tempoGain && fitsBytes 1 a.stepLimit && fitsBytes 1 a.missLimit &&
  fitsBytes 1 a.window && fitsBytes 2 a.breath && fitsBytes 1 a.holdFactor

/-- A form byte is neither 0 nor 1 and the bytes after it are as many as one of the two forms takes
(log 31). -/
def badFormWf (form : Byte) (rest : List Byte) : Bool :=
  decide (form ≠ 0) && decide (form ≠ 1) && (decide (rest.length = 1) || decide (rest.length = 2))

def TuneRef.wf : TuneRef → Bool
  | .byId t => fitsBytes 2 t
  | .byEntry e => fitsBytes 1 e
  | .badForm f r => badFormWf f r

def KeyRef.wf : KeyRef → Bool
  | .bySlot n => fitsBytes 1 n
  | .byKey d k => fitsBytes 1 d && fitsBytes 1 k
  | .badForm f r => badFormWf f r

/-- A frame holds a code and at most 63 body bytes (R206). -/
def RawFrame.wf (f : RawFrame) : Bool := decide (1 ≤ f.bytes.length) && decide (f.bytes.length ≤ 64)

/-- The check of every command. -/
def Instr.wf : Instr → Bool
  | .powerReset => true
  | .pinReset => true
  | .partialFrameByte _ => true
  | .frameGapExpiry => true
  | .frameRejected f => f.wf
  | .frameWhileBusy f => f.wf
  | .answerSent _ => true
  | .status => true
  | .reset => true
  | .divisionPut d r => fitsBytes 1 d && r.wf
  | .divisionClear d => fitsBytes 1 d
  | .divisionQuery d => fitsBytes 1 d
  | .organPut v => v.wf
  | .survey => true
  | .closingSequenceComplete => true
  | .resetClearingShiftComplete => true
  | .surveyReturn c => decide (c ≤ 1024)
  | .surveyNoReturn => true
  | .scanStart => true
  | .scanComplete _ _ => true
  | .tuneOpen t n => fitsBytes 2 t && fitsBytes 2 n
  | .tuneData bs => decide (1 ≤ bs.length) && decide (bs.length ≤ 48)
  | .validationSuccess => true
  | .validationFailure => true
  | .tuneAbort t => fitsBytes 2 t
  | .tuneRetire t => fitsBytes 2 t
  | .tuneQuery w => w.wf
  | .loadResult => true
  | .itemPut i a => fitsBytes 1 i && a.wf
  | .itemReplace i a => fitsBytes 1 i && a.wf
  | .itemRemove i => fitsBytes 1 i
  | .itemQuery i => fitsBytes 1 i
  | .regPut i r => fitsBytes 1 i && r.wf
  | .regQuery i => fitsBytes 1 i
  | .micPut c a => fitsBytes 1 c && a.wf
  | .micQuery c => fitsBytes 1 c
  | .samplePairComplete i _ _ => decide (i < 2)
  | .inputLost i => decide (i < 2)
  | .lastOnsetExpiry c => decide (c < Config.channels)
  | .lastReleaseExpiry c => decide (c < Config.channels)
  | .matchPut m w => fitsBytes 1 m && fitsBytes 1 w
  | .candidateExpiry c => decide (c < Config.channels)
  | .windowCloseExpiry => true
  | .matchedTimeExpiry a => decide (a < 128)
  | .trackPut a => a.wf
  | .trackQuery p st => fitsBytes 1 p && optFitsBytes 1 st && (decide (p = 3) || st.isNone)
  | .rebase => true
  | .fermataExpiry => true
  | .maximumEndExpiry => true
  | .lastMatchedAnchorExpiry => true
  | .referenceTimeExpiry => true
  | .play i m => fitsBytes 1 i && fitsBytes 1 m
  | .gapEnd => true
  | .schedulingExpiry => true
  | .stopItem => true
  | .cancelAll => true
  | .readerPut h => fitsBytes 2 h
  | .cueContactClosed _ => true
  | .cueContactOpened _ => true
  | .cueDebounceExpiry _ => true
  | .lastCueExpiry => true
  | .onTimeExpiry n => decide (n < Config.keyingSlots)
  | .offTimeExpiry n => decide (n < Config.keyingSlots)
  | .deadlineExpiry n => decide (n < Config.keyingSlots)
  | .keyLookup w => w.wf
  | .keyList st => optFitsBytes 1 st
  | .keySound d k t => fitsBytes 1 d && fitsBytes 1 k && fitsBytes 2 t
  | .keyRelease w => w.wf
  | .keyHold n => fitsBytes 1 n
  | .stopsApply r => fitsBytes 1 r
  | .pulseEndExpiry d i => decide (d < Config.divisionPlaces) && decide (i < 16)
  | .stopTimeoutExpiry d i => decide (d < Config.divisionPlaces) && decide (i < 16)
  | .applyTickExpiry _ => true
  | .stopsQuery d st => fitsBytes 1 d && optFitsBytes 1 st
  | .swellPut o w => fitsBytes 1 o && fitsBytes 1 w
  | .swellUpdate => true
  | .swellPeriodStart => true
  | .eventsRead => true
  | .eventsAck _ => true
  | .eventsMask _ => true
  | .eventsForce _ => true
  | .countersRead st => optFitsBytes 1 st
  | .countersClear => true
  | .resetEnd _ => true

end Sys2Proof
end

