-- ==== Sys2Proof/Decode.lean ====
section
/-! DEFINITION. The rows of spec/opcode_table.json give no bits, so no table word spells a command. The
commands that are requests are spelled by frames: this file reads the code and body of a frame into its
command, writes the code and body of a command, and examines a frame, by the catalogue and the layouts
of 10_the_planner_link.md (R196, R199, R206). -/

namespace Sys2Proof

/-- No row of the table gives bits, so no word spells a command (98_reader.md). -/
def decodeTableWord (_nbits _w : Nat) : Option Instr := none

/-! ### Numbers in bytes (R199) -/

/-- A number in k bytes, most significant first. -/
def putNum : Nat → Nat → List Byte
  | 0, _ => []
  | k + 1, n => BitVec.ofNat 8 (n / 256 ^ k) :: putNum k n

/-- The number in the first k bytes, with what was read before them, and the bytes left. -/
def takeNumFrom : Nat → Nat → List Byte → Option (Nat × List Byte)
  | 0, acc, bs => some (acc, bs)
  | _ + 1, _, [] => none
  | k + 1, acc, b :: bs => takeNumFrom k (acc * 256 + b.toNat) bs

/-- The number in the first k bytes, and the bytes left. -/
def takeNum (k : Nat) (bs : List Byte) : Option (Nat × List Byte) := takeNumFrom k 0 bs

/-- A signed byte in two's complement. -/
def putSigned (n : Int) : Byte := BitVec.ofInt 8 n

/-- The presence byte: one bit for each field that may be absent, the first in bit 0. -/
def presenceByte (l : List Bool) : Byte :=
  BitVec.ofNat 8 (l.foldr (fun b acc => 2 * acc + b.toNat) 0)

/-- A field that may be absent, by its presence bit. -/
def givenBy (presence i n : Nat) : Option Nat := if presence.testBit i then some n else none

/-- The number a field that may be absent is sent as. -/
def sentAs (o : Option Nat) : Nat := o.getD 0

/-- A body ends where its last field ends. -/
def ended {α : Type} (bs : List Byte) (x : α) : Option α := if bs.isEmpty then some x else none

/-- The starting index that a listing request carries last, or leaves out (R199). -/
def takeStart (bs : List Byte) : Option (Option Nat) :=
  match bs with
  | [] => some none
  | [b] => some (some b.toNat)
  | _ => none

/-! ### Lists of entries -/

/-- A stop entry: on-magnet in the high 9 bits, off-magnet in the next 9, sense index in the low 6. -/
def putStop (w : StopWiring) : List Byte := putNum 3 (w.onMagnet * 32768 + w.offMagnet * 64 + w.sense)

def takeStop (bs : List Byte) : Option (StopWiring × List Byte) := do
  let (n, bs) ← takeNum 3 bs
  some ({ onMagnet := n / 32768, offMagnet := n / 64 % 512, sense := n % 64 }, bs)

def putRoute (r : Route) : List Byte := putNum 1 r.division ++ [putSigned r.shift]

def takeRoute (bs : List Byte) : Option (Route × List Byte) := do
  let (d, bs) ← takeNum 1 bs
  match bs with
  | [] => none
  | b :: bs => some ({ division := d, shift := b.toInt }, bs)

def putDivisionEntry (e : DivisionEntry) : List Byte :=
  putNum 2 e.drawn.toNat ++ putNum 2 e.least ++ putNum 2 e.greatest

def takeDivisionEntry (bs : List Byte) : Option (DivisionEntry × List Byte) := do
  let (s, bs) ← takeNum 2 bs
  let (l, bs) ← takeNum 2 bs
  let (g, bs) ← takeNum 2 bs
  some ({ drawn := BitVec.ofNat 16 s, least := l, greatest := g }, bs)

/-- n entries, one after another. -/
def takeMany {α : Type} (one : List Byte → Option (α × List Byte)) :
    Nat → List Byte → Option (List α × List Byte)
  | 0, bs => some ([], bs)
  | n + 1, bs => do
    let (a, bs) ← one bs
    let (as, bs) ← takeMany one n bs
    some (a :: as, bs)

/-- A list of varying length: a count byte, then its entries. -/
def takeList {α : Type} (one : List Byte → Option (α × List Byte)) (bs : List Byte) :
    Option (List α × List Byte) := do
  let (n, bs) ← takeNum 1 bs
  takeMany one n bs

/-- A list of varying length, written. -/
def putList {α : Type} (one : α → List Byte) (l : List α) : List Byte :=
  putNum 1 l.length ++ l.flatMap one

/-! ### The bodies of the requests with more than plain numbers -/

def putDivisionArg (division : Nat) (a : DivisionArg) : List Byte :=
  [presenceByte [a.transport.isSome, a.articulation.isSome, a.repeatGap.isSome]] ++
  putNum 1 division ++ putNum 1 a.lowest ++ putNum 1 a.keys ++ putNum 2 a.firstOutput ++
  putNum 1 a.stopCount ++ putList putStop a.stops ++
  putNum 2 (sentAs a.transport) ++ putNum 1 (sentAs a.articulation) ++ putNum 1 (sentAs a.repeatGap) ++
  putNum 1 a.swell

def takeDivisionArg (bs : List Byte) : Option Instr := do
  let (pr, bs) ← takeNum 1 bs
  let (division, bs) ← takeNum 1 bs
  let (lowest, bs) ← takeNum 1 bs
  let (keys, bs) ← takeNum 1 bs
  let (firstOutput, bs) ← takeNum 2 bs
  let (stopCount, bs) ← takeNum 1 bs
  let (stops, bs) ← takeList takeStop bs
  let (transport, bs) ← takeNum 2 bs
  let (articulation, bs) ← takeNum 1 bs
  let (repeatGap, bs) ← takeNum 1 bs
  let (swell, bs) ← takeNum 1 bs
  ended bs (.divisionPut division
    { lowest := lowest, keys := keys, firstOutput := firstOutput, stopCount := stopCount, stops := stops,
      transport := givenBy pr 0 transport, articulation := givenBy pr 1 articulation,
      repeatGap := givenBy pr 2 repeatGap, swell := swell })

def putOrganArg (a : OrganArg) : List Byte :=
  putNum 1 a.minSpeak ++ putNum 2 a.cipherGuard ++ putNum 1 a.pulseTime ++ putNum 2 a.stopTimeout ++
  putNum 3 a.levelLow ++ putNum 3 a.levelHigh

def takeOrganArg (bs : List Byte) : Option Instr := do
  let (minSpeak, bs) ← takeNum 1 bs
  let (cipherGuard, bs) ← takeNum 2 bs
  let (pulseTime, bs) ← takeNum 1 bs
  let (stopTimeout, bs) ← takeNum 2 bs
  let (levelLow, bs) ← takeNum 3 bs
  let (levelHigh, bs) ← takeNum 3 bs
  ended bs (.organPut { minSpeak, cipherGuard, pulseTime, stopTimeout, levelLow, levelHigh })

def itemPresence (a : ItemArg) : Byte :=
  presenceByte [a.giveOutReg.isSome, a.tempo.isSome, (a.tempo.bind (·.least)).isSome,
    (a.tempo.bind (·.greatest)).isSome, a.introGap.isSome, a.verseGap.isSome]

def putItemArg (index : Nat) (a : ItemArg) : List Byte :=
  [itemPresence a] ++ putNum 1 index ++ putNum 2 a.tuneId ++ putNum 1 a.verseCount ++
  putNum 1 a.giveOutMode ++ putNum 1 (sentAs a.giveOutReg) ++ putList (putNum 1) a.verseRegs ++
  putNum 1 a.amenFlag ++ putNum 3 (sentAs (a.tempo.map (·.period))) ++
  putNum 3 (sentAs (a.tempo.bind (·.least))) ++ putNum 3 (sentAs (a.tempo.bind (·.greatest))) ++
  putNum 1 a.endAction ++ putNum 2 (sentAs a.introGap) ++ putNum 2 (sentAs a.verseGap)

def takeItemArg (bs : List Byte) : Option (Nat × ItemArg) := do
  let (pr, bs) ← takeNum 1 bs
  let (index, bs) ← takeNum 1 bs
  let (tuneId, bs) ← takeNum 2 bs
  let (verseCount, bs) ← takeNum 1 bs
  let (giveOutMode, bs) ← takeNum 1 bs
  let (giveOutReg, bs) ← takeNum 1 bs
  let (verseRegs, bs) ← takeList (takeNum 1) bs
  let (amenFlag, bs) ← takeNum 1 bs
  let (period, bs) ← takeNum 3 bs
  let (least, bs) ← takeNum 3 bs
  let (greatest, bs) ← takeNum 3 bs
  let (endAction, bs) ← takeNum 1 bs
  let (introGap, bs) ← takeNum 2 bs
  let (verseGap, bs) ← takeNum 2 bs
  ended bs (index,
    { tuneId := tuneId, verseCount := verseCount, giveOutMode := giveOutMode,
      giveOutReg := givenBy pr 0 giveOutReg, verseRegs := verseRegs, amenFlag := amenFlag,
      tempo := if pr.testBit 1 then
        some { period := period, least := givenBy pr 2 least, greatest := givenBy pr 3 greatest } else none,
      endAction := endAction, introGap := givenBy pr 4 introGap, verseGap := givenBy pr 5 verseGap })

def putRegistration (r : Registration) : List Byte :=
  r.divisions.flatMap putDivisionEntry ++ r.voices.flatMap (putList putRoute)

def takeRegPut (bs : List Byte) : Option Instr := do
  let (index, bs) ← takeNum 1 bs
  let (divisions, bs) ← takeMany takeDivisionEntry Config.divisionPlaces bs
  let (voices, bs) ← takeMany (takeList takeRoute) Config.voices bs
  ended bs (.regPut index { divisions, voices })

def putMicArg (channel : Nat) (a : MicArg) : List Byte :=
  putNum 1 channel ++ putNum 1 a.enabled ++ putNum 1 a.acousticDelay ++ putNum 1 a.rise ++ putNum 3 a.floor ++
  putNum 2 a.refractory ++ putNum 1 a.ratio ++ putNum 1 a.confirm

def takeMicPut (bs : List Byte) : Option Instr := do
  let (channel, bs) ← takeNum 1 bs
  let (enabled, bs) ← takeNum 1 bs
  let (acousticDelay, bs) ← takeNum 1 bs
  let (rise, bs) ← takeNum 1 bs
  let (floor, bs) ← takeNum 3 bs
  let (refractory, bs) ← takeNum 2 bs
  let (ratio, bs) ← takeNum 1 bs
  let (confirm, bs) ← takeNum 1 bs
  ended bs (.micPut channel { enabled, acousticDelay, rise, floor, refractory, ratio, confirm })

def putTrackArg (a : TrackArg) : List Byte :=
  putNum 1 a.phaseGain ++ putNum 1 a.tempoGain ++ putNum 1 a.stepLimit ++ putNum 1 a.missLimit ++
  putNum 1 a.window ++ putNum 2 a.breath ++ putNum 1 a.holdFactor

def takeTrackPut (bs : List Byte) : Option Instr := do
  let (phaseGain, bs) ← takeNum 1 bs
  let (tempoGain, bs) ← takeNum 1 bs
  let (stepLimit, bs) ← takeNum 1 bs
  let (missLimit, bs) ← takeNum 1 bs
  let (window, bs) ← takeNum 1 bs
  let (breath, bs) ← takeNum 2 bs
  let (holdFactor, bs) ← takeNum 1 bs
  ended bs (.trackPut { phaseGain, tempoGain, stepLimit, missLimit, window, breath, holdFactor })

/-- A starting index goes with part 3 alone (R128): with another part its byte makes the body one too long, which
R196 answers BAD_FRAME. That is the model's choice (log 47). -/
def takeTrackQuery (bs : List Byte) : Option Instr := do
  let (part, bs) ← takeNum 1 bs
  let start ← takeStart bs
  if part = 3 ∨ start = none then some (.trackQuery part start) else none

/-- A form byte that is neither 0 nor 1 is a request of its own, refused BAD_ARGUMENT, when the body
is as long as one of the two forms (R199, log 31). -/
def badFormOk (rest : List Byte) : Bool := decide (rest.length = 1) || decide (rest.length = 2)

def putTuneRef : TuneRef → List Byte
  | .byId t => 0#8 :: putNum 2 t
  | .byEntry e => 1#8 :: putNum 1 e
  | .badForm f rest => f :: rest

def takeTuneQuery (bs : List Byte) : Option Instr :=
  match bs with
  | [] => none
  | f :: rest =>
    if f = 0#8 then do
      let (t, bs) ← takeNum 2 rest
      ended bs (.tuneQuery (.byId t))
    else if f = 1#8 then do
      let (e, bs) ← takeNum 1 rest
      ended bs (.tuneQuery (.byEntry e))
    else if badFormOk rest then some (.tuneQuery (.badForm f rest)) else none

def putKeyRef : KeyRef → List Byte
  | .bySlot n => 0#8 :: putNum 1 n
  | .byKey d k => 1#8 :: (putNum 1 d ++ putNum 1 k)
  | .badForm f rest => f :: rest

def takeKeyRef (bs : List Byte) : Option KeyRef :=
  match bs with
  | [] => none
  | f :: rest =>
    if f = 0#8 then do
      let (n, bs) ← takeNum 1 rest
      ended bs (.bySlot n)
    else if f = 1#8 then do
      let (d, bs) ← takeNum 1 rest
      let (k, bs) ← takeNum 1 bs
      ended bs (.byKey d k)
    else if badFormOk rest then some (.badForm f rest) else none

/-! ### Requests of one or two plain numbers -/

def takeOne (k : Nat) (make : Nat → Instr) (bs : List Byte) : Option Instr := do
  let (n, bs) ← takeNum k bs
  ended bs (make n)

def takeTwo (j k : Nat) (make : Nat → Nat → Instr) (bs : List Byte) : Option Instr := do
  let (m, bs) ← takeNum j bs
  let (n, bs) ← takeNum k bs
  ended bs (make m n)

def takeThree (i j k : Nat) (make : Nat → Nat → Nat → Instr) (bs : List Byte) : Option Instr := do
  let (l, bs) ← takeNum i bs
  let (m, bs) ← takeNum j bs
  let (n, bs) ← takeNum k bs
  ended bs (make l m n)

def takeStopsQuery (bs : List Byte) : Option Instr := do
  let (d, bs) ← takeNum 1 bs
  let start ← takeStart bs
  some (.stopsQuery d start)

/-- TUNE DATA takes a body of 1 to 48 bytes, all of them image (R196). -/
def takeTuneData (bs : List Byte) : Option Instr :=
  if 1 ≤ bs.length ∧ bs.length ≤ 48 then some (.tuneData bs) else none

/-! ### The catalogue (10.4) -/

/-- The body of a request that has this code; none when the body's length is not one the code takes. -/
def readBody (code : Nat) (bs : List Byte) : Option Instr :=
  match code with
  | 0x01 => ended bs .status
  | 0x02 => ended bs .reset
  | 0x08 => takeDivisionArg bs
  | 0x09 => takeOne 1 .divisionClear bs
  | 0x0A => takeOne 1 .divisionQuery bs
  | 0x0B => takeOrganArg bs
  | 0x0C => ended bs .survey
  | 0x10 => takeTwo 2 2 .tuneOpen bs
  | 0x11 => takeTuneData bs
  | 0x12 => takeOne 2 .tuneAbort bs
  | 0x13 => takeOne 2 .tuneRetire bs
  | 0x14 => takeTuneQuery bs
  | 0x15 => ended bs .loadResult
  | 0x18 => (takeItemArg bs).map (fun x => .itemPut x.1 x.2)
  | 0x19 => (takeItemArg bs).map (fun x => .itemReplace x.1 x.2)
  | 0x1A => takeOne 1 .itemRemove bs
  | 0x1B => takeOne 1 .itemQuery bs
  | 0x1C => takeRegPut bs
  | 0x1D => takeOne 1 .regQuery bs
  | 0x20 => takeMicPut bs
  | 0x21 => takeOne 1 .micQuery bs
  | 0x22 => takeTwo 1 1 .matchPut bs
  | 0x23 => takeTrackPut bs
  | 0x24 => takeTrackQuery bs
  | 0x28 => takeTwo 1 1 .play bs
  | 0x29 => ended bs .stopItem
  | 0x2A => ended bs .cancelAll
  | 0x2B => takeOne 2 .readerPut bs
  | 0x30 => (takeKeyRef bs).map .keyLookup
  | 0x31 => (takeStart bs).map .keyList
  | 0x32 => takeThree 1 1 2 .keySound bs
  | 0x33 => (takeKeyRef bs).map .keyRelease
  | 0x34 => takeOne 1 .keyHold bs
  | 0x38 => takeOne 1 .stopsApply bs
  | 0x39 => takeStopsQuery bs
  | 0x3A => takeTwo 1 1 .swellPut bs
  | 0x40 => ended bs .eventsRead
  | 0x41 => takeOne 3 (fun n => .eventsAck (BitVec.ofNat 24 n)) bs
  | 0x42 => takeOne 3 (fun n => .eventsMask (BitVec.ofNat 24 n)) bs
  | 0x43 => takeOne 3 (fun n => .eventsForce (BitVec.ofNat 24 n)) bs
  | 0x48 => (takeStart bs).map .countersRead
  | 0x49 => ended bs .countersClear
  | _ => none

/-- The codes of the catalogue (10.4). -/
def requestCodes : List Nat :=
  [0x01, 0x02, 0x08, 0x09, 0x0A, 0x0B, 0x0C, 0x10, 0x11, 0x12, 0x13, 0x14, 0x15, 0x18, 0x19, 0x1A, 0x1B,
   0x1C, 0x1D, 0x20, 0x21, 0x22, 0x23, 0x24, 0x28, 0x29, 0x2A, 0x2B, 0x30, 0x31, 0x32, 0x33, 0x34, 0x38,
   0x39, 0x3A, 0x40, 0x41, 0x42, 0x43, 0x48, 0x49]

/-- The starting index as it is sent, if it is. -/
def putStart : Option Nat → List Byte
  | none => []
  | some n => putNum 1 n

/-- The code and the body of a command that is a request; none for an event. -/
def writeRequest : Instr → Option (Nat × List Byte)
  | .status => some (0x01, [])
  | .reset => some (0x02, [])
  | .divisionPut d a => some (0x08, putDivisionArg d a)
  | .divisionClear d => some (0x09, putNum 1 d)
  | .divisionQuery d => some (0x0A, putNum 1 d)
  | .organPut a => some (0x0B, putOrganArg a)
  | .survey => some (0x0C, [])
  | .tuneOpen t n => some (0x10, putNum 2 t ++ putNum 2 n)
  | .tuneData bs => some (0x11, bs)
  | .tuneAbort t => some (0x12, putNum 2 t)
  | .tuneRetire t => some (0x13, putNum 2 t)
  | .tuneQuery w => some (0x14, putTuneRef w)
  | .loadResult => some (0x15, [])
  | .itemPut i a => some (0x18, putItemArg i a)
  | .itemReplace i a => some (0x19, putItemArg i a)
  | .itemRemove i => some (0x1A, putNum 1 i)
  | .itemQuery i => some (0x1B, putNum 1 i)
  | .regPut i r => some (0x1C, putNum 1 i ++ putRegistration r)
  | .regQuery i => some (0x1D, putNum 1 i)
  | .micPut c a => some (0x20, putMicArg c a)
  | .micQuery c => some (0x21, putNum 1 c)
  | .matchPut m w => some (0x22, putNum 1 m ++ putNum 1 w)
  | .trackPut a => some (0x23, putTrackArg a)
  | .trackQuery p st => some (0x24, putNum 1 p ++ putStart st)
  | .play i m => some (0x28, putNum 1 i ++ putNum 1 m)
  | .stopItem => some (0x29, [])
  | .cancelAll => some (0x2A, [])
  | .readerPut h => some (0x2B, putNum 2 h)
  | .keyLookup w => some (0x30, putKeyRef w)
  | .keyList st => some (0x31, putStart st)
  | .keySound d k t => some (0x32, putNum 1 d ++ (putNum 1 k ++ putNum 2 t))
  | .keyRelease w => some (0x33, putKeyRef w)
  | .keyHold n => some (0x34, putNum 1 n)
  | .stopsApply r => some (0x38, putNum 1 r)
  | .stopsQuery d st => some (0x39, putNum 1 d ++ putStart st)
  | .swellPut o w => some (0x3A, putNum 1 o ++ putNum 1 w)
  | .eventsRead => some (0x40, [])
  | .eventsAck l => some (0x41, putNum 3 l.toNat)
  | .eventsMask l => some (0x42, putNum 3 l.toNat)
  | .eventsForce l => some (0x43, putNum 3 l.toNat)
  | .countersRead st => some (0x48, putStart st)
  | .countersClear => some (0x49, [])
  | .powerReset | .pinReset | .partialFrameByte _ | .frameGapExpiry | .frameRejected _ | .frameWhileBusy _
  | .answerSent _ | .closingSequenceComplete | .resetClearingShiftComplete | .surveyReturn _
  | .surveyNoReturn | .scanStart | .scanComplete _ _ | .validationSuccess | .validationFailure
  | .samplePairComplete _ _ _ | .inputLost _ | .lastOnsetExpiry _ | .lastReleaseExpiry _
  | .candidateExpiry _ | .windowCloseExpiry | .matchedTimeExpiry _ | .rebase | .fermataExpiry
  | .maximumEndExpiry | .lastMatchedAnchorExpiry | .referenceTimeExpiry | .gapEnd | .schedulingExpiry
  | .cueContactClosed _ | .cueContactOpened _ | .cueDebounceExpiry _ | .lastCueExpiry | .onTimeExpiry _
  | .offTimeExpiry _ | .deadlineExpiry _ | .pulseEndExpiry _ _ | .stopTimeoutExpiry _ _
  | .applyTickExpiry _ | .swellUpdate | .swellPeriodStart | .resetEnd _ => none

/-! ### Characters (R194) -/

/-- The levels of a character on the line, in the order of its ten bit times: the start bit, which is low,
the data bits, least significant first, and the stop bit. There is no parity bit. -/
def Character.levels (c : Character) : List Bool :=
  false :: (List.range 8).map (fun i => c.data.getLsbD i) ++ [c.stop]

/-- The character that the levels of ten bit times are; none when they do not begin with a start bit. -/
def characterOf : List Bool → Option Character
  | [false, b0, b1, b2, b3, b4, b5, b6, b7, stop] =>
    some { data := BitVec.ofBoolListLE [b0, b1, b2, b3, b4, b5, b6, b7], stop := stop }
  | _ => none

/-- A byte as the part sends it, with its stop bit high. -/
def sentCharacter (b : Byte) : Character := { data := b, stop := true }

/-- The levels on PLTX while bytes are sent; the line rests high before and after them. -/
def levelsOf (bytes : List Byte) : List Bool := bytes.flatMap (fun b => (sentCharacter b).levels)

/-! ### Frames (R206) and their examination (R196) -/

/-- The sum of the bytes, modulo 256. -/
def byteSum (bs : List Byte) : Byte := bs.foldr (· + ·) 0

/-- The check byte: it brings the sum of the length, the code, the body and itself to 0 modulo 256. -/
def checkByte (bytes : List Byte) : Byte := - (BitVec.ofNat 8 bytes.length + byteSum bytes)

/-- The bytes of a frame on the line, from its start byte. -/
def frameOnLine (bytes : List Byte) : List Byte :=
  0x7E#8 :: BitVec.ofNat 8 bytes.length :: bytes ++ [checkByte bytes]

/-- The bytes of a frame, failing or not, on the line. -/
def RawFrame.onLine (f : RawFrame) : List Byte :=
  0x7E#8 :: BitVec.ofNat 8 f.bytes.length :: f.bytes ++ [f.check]

/-- The frame that carries a code and a body. -/
def frameOf (code : Nat) (body : List Byte) : RawFrame :=
  { bytes := BitVec.ofNat 8 code :: body, check := checkByte (BitVec.ofNat 8 code :: body) }

/-- What the examination of a complete frame finds (R196). -/
inductive Examined where
  /-- The sum is not 0: BAD_FRAME, detail 1. -/
  | badSum
  /-- The code is not in the catalogue: UNKNOWN. -/
  | unknownCode
  /-- The body's length is not one the code takes: BAD_FRAME, detail 3. -/
  | badLength
  /-- A request. -/
  | request (c : Instr)
deriving DecidableEq, Repr

/-- The code byte of a frame; 0 when it has none. -/
def RawFrame.code (f : RawFrame) : Nat := (f.bytes.headD 0).toNat

/-- R196: the three tests in their order. -/
def examine (f : RawFrame) : Examined :=
  if f.check ≠ checkByte f.bytes then .badSum
  else if f.code ∉ requestCodes then .unknownCode
  else match readBody f.code f.bytes.tail with
    | none => .badLength
    | some c => .request c

end Sys2Proof
end

