-- ==== Sys2Proof/Machine/State.lean ====
section
/-! DEFINITION. Everything the manual gives the IS-40 to hold, as plain data, and its value right after
a POWER reset. A record that exists only sometimes is an Option; what the manual computes from other
state (the drawn state of a stop, the free block count, the live channels, the choir level, the level of
ATTN) is a function, not a field. -/

namespace Sys2Proof.Machine

/-! ### Organ Description and chest chain (01) -/

/-- A stored division record (R3); the stop count is the length of `stops`. -/
structure Division where
  lowest : Nat
  keys : Nat
  firstOutput : Nat
  stops : List StopWiring
  transport : Nat
  articulation : Nat
  repeatGap : Nat
  swell : Option Nat
deriving DecidableEq, Repr

/-- The organ-wide settings (R11, R190). -/
structure Settings where
  minSpeak : Nat
  cipherGuard : Nat
  pulseTime : Nat
  stopTimeout : Nat
  levelLow : Nat
  levelHigh : Nat
deriving DecidableEq, Repr

/-- The Organ Description: places 0 to 3, the settings, and the sense chain's length in boards (R3, R5). -/
structure Organ where
  divisions : List (Option Division)
  settings : Settings
  senseBoards : Nat
deriving DecidableEq, Repr

/-- R13. -/
inductive ChainPhase where
  | unsurveyed | surveying | running | fault
deriving DecidableEq, Repr

/-- R13. -/
inductive FaultCause where
  | noReturn | integrity
deriving DecidableEq, Repr

/-- R13. -/
inductive Verdict where
  | present | absent
deriving DecidableEq, Repr

/-- The clearing shift in progress (R14). -/
inductive ClearingShift where
  /-- None. -/
  | none
  /-- A reset's (R26); whether a SURVEY was taken while it runs. -/
  | ofReset (surveyTaken : Bool)
  /-- A closing sequence's (R15); whether a survey follows it. -/
  | ofClosing (surveyFollows : Bool)
deriving DecidableEq, Repr

/-- The Chest Chain unit (R13), with the scan in progress, the tick of the next scan start, and what the
boards' output latches hold (R14, R20). -/
structure Chain where
  phase : ChainPhase
  length : Option Nat
  cause : Option FaultCause
  verdicts : List (Option Verdict)
  previous : ChestImage
  misses : Nat
  clean : Nat
  sense : Option SenseImage
  scan : Option ChestImage
  nextScan : Option Tick
  shift : ClearingShift
  latched : ChestImage
deriving DecidableEq, Repr

/-! ### Hymn Library (02) -/

/-- The states of an entry that is not FREE (R27). -/
inductive EntryState where
  | loading | validating | ready
deriving DecidableEq, Repr

/-- The derived values of a READY tune (R41). -/
structure Derived where
  eventCount : Nat
  verseEvents : Nat
  lines : Nat
  verseAnchors : Nat
  amenAnchors : Nat
  verseLength : Nat
  amenPresent : Bool
  amenStart : Option Nat
  amenEnd : Option Nat
deriving DecidableEq, Repr

/-- A directory entry that is not FREE (R27). -/
structure Entry where
  state : EntryState
  tuneId : Nat
  length : Nat
  blocks : List Nat
  cursor : Nat
  derived : Option Derived
  lineEndSupplied : Bool
deriving DecidableEq, Repr

/-- How a load ended, in the order of R43's codes 0 to 18. -/
inductive LoadOutcome where
  | ok | idMismatch | headerRange | periodOrder | short | firstPosition | order | amenOrder | noteRange
  | endRange | voiceRange | duplicateVoice | flagPlace | anchors | lines | noAnchor | long | aborted | reset
deriving DecidableEq, Repr

/-- The last-load result (R43). -/
structure LoadResult where
  tuneId : Nat
  outcome : LoadOutcome
  event : Option Nat
deriving DecidableEq, Repr

/-- The block storage as (address, byte) pairs, addresses strictly rising, no byte 0 (log 9). -/
abbrev Memory := List Host.Cell

/-- The Hymn Library (R27). -/
structure Library where
  entries : List (Option Entry)
  mem : Memory
  lastLoad : Option LoadResult
deriving DecidableEq, Repr

/-! ### Service items (03) -/

/-- R50, in the order of its range. -/
inductive GiveOut where
  | none | firstLine | lastLine | whole
deriving DecidableEq, Repr

/-- R50, in the order of its range. -/
inductive EndAction where
  | halt | waitCue | continue
deriving DecidableEq, Repr

/-- A stored service item (R50); the verse count is the length of `verseRegs`. -/
structure Item where
  tuneId : Nat
  giveOut : GiveOut
  giveOutReg : Option Nat
  verseRegs : List Nat
  amen : Bool
  tempo : Option TempoOverride
  endAction : EndAction
  introGap : Nat
  verseGap : Nat
deriving DecidableEq, Repr

/-! ### Listening Channels (04) -/

/-- A serial audio input: presence, loss expiry, and the frame being assembled, as the number of its
pairs and each channel's sum of magnitudes so far (R69, R74, R75, log 24). -/
structure AudioInput where
  present : Bool
  lossAt : Option Tick
  pairs : Nat
  lowSum : Nat
  highSum : Nat
deriving DecidableEq, Repr

/-- R71. -/
structure MicParams where
  enabled : Bool
  acousticDelay : Nat
  rise : Nat
  floor : Nat
  refractory : Nat
  ratio : Nat
  confirm : Nat
deriving DecidableEq, Repr

/-- R76. -/
structure OnsetRecord where
  frame : Tick
  time : Tick
  strength : Nat
deriving DecidableEq, Repr

/-- A channel: its parameters and the record of R76. `voiced` is its state, VOICED or QUIET. -/
structure Channel where
  params : MicParams
  voiced : Bool
  level : Nat
  peak : Option Nat
  run : Nat
  runStart : Option Tick
  lastOnset : Option OnsetRecord
  lastRelease : Option Tick
deriving DecidableEq, Repr

/-- Inputs A, B and channels 0 to 3. -/
structure Listening where
  inputs : List AudioInput
  channels : List Channel
deriving DecidableEq, Repr

/-! ### Onset Matcher (05) -/

/-- R87. -/
inductive MatcherState where
  | idle | giveOut | opened | closed
deriving DecidableEq, Repr

/-- R88. -/
inductive AnchorStatus where
  | pending | matched | missed
deriving DecidableEq, Repr

/-- R88. -/
structure Anchor where
  position : Nat
  status : AnchorStatus
  time : Option Tick
  channel : Option Nat
deriving DecidableEq, Repr

/-- R99. -/
structure Candidate where
  time : Tick
  strength : Nat
  expiry : Tick
deriving DecidableEq, Repr

/-- R93: a mode, and a behaviour in force (R94). -/
inductive MatchMode where
  | firstArrival | agreement
deriving DecidableEq, Repr

/-- The Onset Matcher. -/
structure Matcher where
  state : MatcherState
  anchors : List Anchor
  tag : Option Nat
  mode : MatchMode
  merge : Nat
  behaviour : MatchMode
  candidates : List (Option Candidate)
  windowClose : Option Tick
deriving DecidableEq, Repr

/-! ### Tempo Tracker (06) -/

/-- R107. -/
inductive TrackerState where
  | idle | leading | following | coasting | holding
deriving DecidableEq, Repr

/-- The three periods of an item (R51). -/
structure Bounds where
  least : Nat
  greatest : Nat
  starting : Nat
deriving DecidableEq, Repr

/-- A pending fermata (R107): fermata position, written span, resume position. -/
structure Fermata where
  position : Nat
  span : Nat
  resume : Nat
deriving DecidableEq, Repr

/-- R123. -/
inductive HoldEntry where
  | fermata | cue
deriving DecidableEq, Repr

/-- The hold record (R123). -/
structure Hold where
  entry : HoldEntry
  position : Nat
  resume : Nat
  span : Nat
  entryTime : Tick
  minEnd : Tick
  maxEnd : Tick
  cueHeld : Bool
deriving DecidableEq, Repr

/-- R112. -/
structure TrackParams where
  phaseGain : Nat
  tempoGain : Nat
  stepLimit : Nat
  missLimit : Nat
  window : Nat
  breath : Nat
  holdFactor : Nat
deriving DecidableEq, Repr

/-- A matched anchor's position and time (R107). -/
structure MatchPoint where
  position : Nat
  time : Tick
deriving DecidableEq, Repr

/-- The Tempo Tracker (R107). `refTime` is R, `refPos` is X, `period` is P. -/
structure Tracker where
  state : TrackerState
  refTime : Option Tick
  refPos : Nat
  period : Nat
  bounds : Option Bounds
  tag : Option Nat
  inPlay : Bool
  matched : Bool
  lastAnchor : Option MatchPoint
  misses : Nat
  fermata : Option Fermata
  fermataAt : Option Tick
  hold : Option Hold
  params : TrackParams
deriving DecidableEq, Repr

/-! ### Score Reader (07) -/

/-- R131. -/
inductive FlowState where
  | idle | waiting | preparing | gap | playing | ending
deriving DecidableEq, Repr

/-- A section of the plan (R131, R133). -/
inductive Section where
  | giveOut | verse (number : Nat) | amen
deriving DecidableEq, Repr

/-- The event cursor (R131). -/
inductive EventCursor where
  | event (index : Nat) | pastEnd
deriving DecidableEq, Repr

/-- R131. -/
inductive EndCause where
  | complete | stopped | cancelled | fault | noTune
deriving DecidableEq, Repr

/-- The last cue (R131). -/
structure LastCue where
  button : Button
  tick : Tick
  taken : Bool
deriving DecidableEq, Repr

/-- R147. -/
inductive DebounceState where
  | opened | closing | closed | opening
deriving DecidableEq, Repr

/-- A cue input: its debounce state and when its timer was started. -/
structure CueInput where
  state : DebounceState
  timer : Option Tick
deriving DecidableEq, Repr

/-- The Score Reader (R131). `tempo` is the effective tempo of the item taken up (R51). -/
structure Reader where
  flow : FlowState
  plan : Option (List Section)
  inHand : Option Nat
  tag : Nat
  cursor : Option EventCursor
  schedAt : Option Tick
  wait : Option Nat
  gapEnd : Option Tick
  cause : Option EndCause
  lastCue : Option LastCue
  horizon : Nat
  tempo : Option Bounds
  cueGo : CueInput
  cueHold : CueInput
  cueStop : CueInput
deriving DecidableEq, Repr

/-! ### Keying Table (08) -/

/-- R154. -/
inductive RecState where
  | scheduled | sounding | held
deriving DecidableEq, Repr

/-- R154. -/
inductive Origin where
  | score | giveOut | planner
deriving DecidableEq, Repr

/-- R154. -/
inductive HoldKind where
  | tracker | host
deriving DecidableEq, Repr

/-- The positions and section tag of a record of SCORE or GIVEOUT origin (R154). -/
structure Span where
  start : Nat
  stop : Nat
  tag : Nat
deriving DecidableEq, Repr

/-- A keying record (R154); its slot is its place in the table. -/
structure KeyRecord where
  division : Nat
  key : Nat
  state : RecState
  origin : Origin
  voices : VoiceSet
  priority : Nat
  span : Option Span
  onTime : Tick
  offTime : Option Tick
  deadline : Option Tick
  successor : Option Nat
  holdKind : Option HoldKind
deriving DecidableEq, Repr

/-! ### Stop Action and Swell (09) -/

/-- R178. -/
inductive UnknownCause where
  | unread | abandoned
deriving DecidableEq, Repr

/-- R178. -/
inductive ActionState where
  | idle | pulsing | settling | done | fault
deriving DecidableEq, Repr

/-- R178. -/
inductive Magnet where
  | on | off
deriving DecidableEq, Repr

/-- A stop record (R178). `desired` is true for ON. -/
structure StopRecord where
  sense : Option Bool
  cause : Option UnknownCause
  action : ActionState
  desired : Option Bool
  drive : Option Magnet
  pulseEnd : Option Tick
  timeout : Option Tick
  handSet : Bool
deriving DecidableEq, Repr

/-- R181. -/
inductive ApplyState where
  | none | inFlight | complete | abandoned
deriving DecidableEq, Repr

/-- R181. -/
inductive ApplyOrigin where
  | reader | host
deriving DecidableEq, Repr

/-- The apply record (R181). -/
structure Apply where
  state : ApplyState
  registration : Option Nat
  origin : Option ApplyOrigin
  startTick : Option Tick
  endTick : Option Tick
  taken : Nat
  pulses : Nat
  faults : Nat
  readerWaiting : Bool
deriving DecidableEq, Repr

/-- A swell output (R190 to R192): `driven` is the duty read at its latest period start. -/
structure SwellOutput where
  duty : Nat
  target : Option Nat
  slew : Nat
  driven : Nat
deriving DecidableEq, Repr

/-- The Swell Follower: outputs 0 and 1, the tick of the next update and of the next period start. -/
structure Swell where
  outputs : List SwellOutput
  nextUpdate : Tick
  nextPeriod : Tick
deriving DecidableEq, Repr

/-! ### Planner Link (10) -/

/-- R195. -/
inductive ReceiverState where
  | hunt | length | body | check
deriving DecidableEq, Repr

/-- The receiver: its state, the length N, the code and body bytes kept, and the gap expiry (R195). -/
structure Receiver where
  state : ReceiverState
  need : Nat
  bytes : List Byte
  gapAt : Option Tick
deriving DecidableEq, Repr

/-- An answer: its code and its body (R206). -/
structure Answer where
  code : Byte
  body : List Byte
deriving DecidableEq, Repr

/-- R200. -/
inductive ResetCause where
  | power | pin | request
deriving DecidableEq, Repr

/-- The Planner Link less its latches and counters. `owed` is the answer of a request that is answered
only after a clearing shift (R15, R16); `resetPending` says that the answer in progress is RESET's reply;
`fast` that RATE was sampled high. -/
structure Link where
  receiver : Receiver
  busy : Bool
  answer : Option Answer
  waiting : Option Answer
  owed : Option Answer
  resetPending : Bool
  mask : LatchSet
  cause : ResetCause
  fast : Bool
deriving DecidableEq, Repr

/-! ### The whole part -/

/-- An expiry a step must still take at once (R118, R139, R156): see Machine/Cascade.lean. -/
inductive Due where
  | onTime (slot : Nat)
  | offTime (slot : Nat)
  | windowClose
  | scheduling
  | fermata
  | sectionTest
deriving DecidableEq, Repr

/-- What playing reads and does not change: the clock, the description, the chain, the library, the
service items and the registrations. -/
structure Env where
  clock : Tick
  organ : Organ
  chain : Chain
  library : Library
  items : List Item
  regs : List Registration
deriving DecidableEq, Repr

/-- What playing changes: the blocks whose effects run into one another inside one step, the latches
and counters they raise, the service list's cursor, the entry that carries the IN_USE mark, and the
expiries still to be taken at once (the model's own field, log 4). -/
structure Play where
  latches : LatchSet
  counters : List Nat
  cursor : Option Nat
  inUse : Option Nat
  matcher : Matcher
  tracker : Tracker
  reader : Reader
  slots : List (Option KeyRecord)
  stops : List (List StopRecord)
  apply : Apply
  atOnce : List Due
deriving DecidableEq, Repr

/-- The IS-40. `inReset` says that RESETn is held low; `pending` is the queue of commands (the model's
own field, log 1). -/
structure State extends Env where
  inReset : Bool
  listening : Listening
  swell : Swell
  link : Link
  play : Play
  pending : List Instr
deriving DecidableEq, Repr

/-- No rule of the manual stops the part: what cannot be carried out is answered REJECT, and the faults
of a chain, a stop or an input are states it goes on in. So no reason to stop exists. -/
inductive Fault : Type where
deriving DecidableEq, Repr

/-- Why the model gives a command no meaning. -/
inductive Refusal where
  /-- Raised by exec for a command that has no meaning yet; safe, since the model then says nothing
  about it. No arm raises it. -/
  | notModelled (mnemonic : String)
deriving DecidableEq, Repr

/-! ### Power-up values -/

/-- R11, R190. -/
def Settings.powerUp : Settings :=
  { minSpeak := 30, cipherGuard := 20000, pulseTime := 60, stopTimeout := 400, levelLow := 8192,
    levelHigh := 131072 }

/-- R12. -/
def Organ.powerUp : Organ :=
  { divisions := List.replicate Config.divisionPlaces none, settings := Settings.powerUp, senseBoards := 0 }

/-- The chain at the end of a reset, its clearing shift begun (R26). What the boards' latches hold is
carried over. -/
def Chain.afterReset (latched : ChestImage) : Chain :=
  { phase := .unsurveyed, length := none, cause := none,
    verdicts := List.replicate Config.divisionPlaces none, previous := 0, misses := 0, clean := 0,
    sense := none, scan := none, nextScan := none, shift := .ofReset false, latched := latched }

/-- R49. -/
def Library.powerUp : Library :=
  { entries := List.replicate Config.libraryEntries none, mem := [], lastLoad := none }

/-- R67. -/
def Registration.powerUp : Registration :=
  { divisions := List.replicate Config.divisionPlaces { drawn := 0, least := 0, greatest := 1023 },
    voices := List.replicate Config.voices [] }

/-- R71. -/
def MicParams.powerUp : MicParams :=
  { enabled := false, acousticDelay := 0, rise := 24, floor := 4096, refractory := 120, ratio := 6,
    confirm := 10 }

/-- The record of R76 as every reset leaves it, and as an enabling or a loss begins it less the last
onset and release (R73, R86). -/
def Channel.quiet (params : MicParams) : Channel :=
  { params := params, voiced := false, level := 0, peak := none, run := 0, runStart := none,
    lastOnset := none, lastRelease := none }

/-- R86. -/
def AudioInput.lost : AudioInput :=
  { present := false, lossAt := none, pairs := 0, lowSum := 0, highSum := 0 }

/-- R86: both inputs LOST, every channel QUIET with the given parameters. -/
def Listening.afterReset (params : List MicParams) : Listening :=
  { inputs := [AudioInput.lost, AudioInput.lost], channels := params.map Channel.quiet }

/-- R106. -/
def Matcher.afterReset (mode : MatchMode) (merge : Nat) : Matcher :=
  { state := .idle, anchors := [], tag := none, mode := mode, merge := merge, behaviour := .firstArrival,
    candidates := List.replicate Config.channels none, windowClose := none }

/-- R112. -/
def TrackParams.powerUp : TrackParams :=
  { phaseGain := 8, tempoGain := 4, stepLimit := 20, missLimit := 3, window := 80, breath := 120,
    holdFactor := 6 }

/-- R130. -/
def Tracker.afterReset (params : TrackParams) : Tracker :=
  { state := .idle, refTime := some 0, refPos := 0, period := 0, bounds := none, tag := none, inPlay := false,
    matched := false, lastAnchor := none, misses := 0, fermata := none, fermataAt := none, hold := none,
    params := params }

/-- R147: at every reset a cue input is OPENING with its timer started at the reset's end. -/
def CueInput.afterReset : CueInput := { state := .opening, timer := some 0 }

/-- R153. -/
def Reader.afterReset (horizon : Nat) : Reader :=
  { flow := .idle, plan := none, inHand := none, tag := 0, cursor := none, schedAt := none, wait := none,
    gapEnd := none, cause := none, lastCue := none, horizon := horizon, tempo := none,
    cueGo := .afterReset, cueHold := .afterReset, cueStop := .afterReset }

/-- A newly formed stop record (R178). -/
def StopRecord.fresh : StopRecord :=
  { sense := none, cause := some .unread, action := .idle, desired := none, drive := none, pulseEnd := none,
    timeout := none, handSet := false }

/-- The stop records of a place: one for each stop of its record (R178). -/
def StopRecord.forPlace : Option Division → List StopRecord
  | none => []
  | some d => List.replicate d.stops.length .fresh

/-- R189. -/
def Apply.none : Apply :=
  { state := .none, registration := Option.none, origin := Option.none, startTick := Option.none,
    endTick := Option.none, taken := 0, pulses := 0, faults := 0, readerWaiting := false }

/-- R193: a power-up output; `driven` is 0 until a period begins. -/
def SwellOutput.powerUp : SwellOutput := { duty := 0, target := none, slew := 32, driven := 0 }

/-- The swell after a reset: the update count and the periods begin again from its end (R193). -/
def Swell.afterReset (outputs : List SwellOutput) : Swell :=
  { outputs := outputs, nextUpdate := 100, nextPeriod := 0 }

/-- The receiver with no partial frame (R205). -/
def Receiver.hunting : Receiver := { state := .hunt, need := 0, bytes := [], gapAt := none }

/-- The link as every reset leaves it (R205). -/
def Link.afterReset (mask : LatchSet) (cause : ResetCause) (fast : Bool) : Link :=
  { receiver := .hunting, busy := false, answer := none, waiting := none, owed := none,
    resetPending := false, mask := mask, cause := cause, fast := fast }

/-- What playing changes, as every reset leaves it: only the parameters, the cursor and the number of
stop records come from before it. No latch is set (R205 sets RESET at the reset's end). -/
def Play.afterReset (cursor : Option Nat) (mode : MatchMode) (merge : Nat) (params : TrackParams)
    (horizon : Nat) (divisions : List (Option Division)) : Play :=
  { latches := 0, counters := List.replicate Config.counters 0, cursor := cursor, inUse := none,
    matcher := .afterReset mode merge, tracker := .afterReset params, reader := .afterReset horizon,
    slots := List.replicate Config.keyingSlots none, stops := divisions.map StopRecord.forPlace,
    apply := .none, atOnce := [] }

/-- Every table and parameter at its power-up value (00, Resets), with a reset's clearing shift to make.
The boards' latches are not the part's and keep what they hold (log 10). -/
def State.powerUp (latched : ChestImage) : State :=
  { clock := 0, organ := .powerUp, chain := .afterReset latched, library := .powerUp, items := [],
    regs := List.replicate Config.registrations Registration.powerUp, inReset := true,
    listening := .afterReset (List.replicate Config.channels .powerUp),
    swell := .afterReset [.powerUp, .powerUp], link := .afterReset 0 .power false,
    play := .afterReset none .firstArrival 60 .powerUp 400 (List.replicate Config.divisionPlaces none),
    pending := [] }

/-- The machine right after reset: the end of a POWER reset, with latch RESET set (R205), every board
output off (DESIGN CHOICE, log 10) and RATE read low (DESIGN CHOICE, log 8). -/
def State.reset : State :=
  { State.powerUp 0 with
    inReset := false
    play := { (State.powerUp 0).play with latches := 1 } }

end Sys2Proof.Machine
end

