-- ==== Sys2Proof/Machine/Ops.lean ====
section
/-! DEFINITION. The named operations over the state: times, the library's block storage, the places of
the Organ Description, the slots of the Keying Table, the stop records, and the answers of the link.
An IS-40 has no exceptions: what a processor would trap on is answered REJECT (R197). -/

namespace Sys2Proof.Machine

/-! ### Times (R1) -/

/-- A number of ticks as a clock value. -/
def ticks (n : Nat) : Tick := BitVec.ofNat 32 n

/-- R1: the difference of two times, modulo 2^32, read as a signed number. -/
def timeDiff (a b : Tick) : Int := (a - b).toInt

/-- R1: time a is after time b. -/
def isAfter (a b : Tick) : Bool := decide (0 < timeDiff a b)

/-- The expiry at time t has come at the clock value `now`: t is not after it. -/
def hasCome (now t : Tick) : Bool := !isAfter t now

/-- An expiry that may be absent has come. -/
def dueAt (now : Tick) : Option Tick → Bool
  | none => false
  | some t => hasCome now t

/-- The expiry a number of ticks after a time that may be absent has come. -/
def dueAfter (now : Tick) (span : Nat) : Option Tick → Bool
  | none => false
  | some t => hasCome now (t + ticks span)

/-- The expiry 2^20 ticks after a stored time, at which it becomes absent (R1). -/
def agesOut (now : Tick) (t : Option Tick) : Bool := dueAfter now Config.timeSpan t

/-- The earlier and the later of two times. -/
def earlier (a b : Tick) : Tick := if isAfter a b then b else a
def later (a b : Tick) : Tick := if isAfter a b then a else b

/-- The two times lie within m ticks of each other (R96). -/
def within (m : Nat) (a b : Tick) : Bool :=
  decide (-(m : Int) ≤ timeDiff a b) && decide (timeDiff a b ≤ (m : Int))

/-! ### Bytes of the library's storage (R27) -/

/-- What an address reads as: 0 where nothing is listed (log 9). -/
def Memory.read : Memory → Nat → Byte
  | [], _ => 0
  | (k, b) :: rest, a => if a = k then b else Memory.read rest a

/-- Write one byte, keeping the form of `Memory.wf`. -/
def Memory.write : Memory → Nat → Byte → Memory
  | [], a, b => if b = 0 then [] else [(a, b)]
  | (k, c) :: rest, a, b =>
    if a < k then (if b = 0 then (k, c) :: rest else (a, b) :: (k, c) :: rest)
    else if a = k then (if b = 0 then rest else (a, b) :: rest)
    else (k, c) :: Memory.write rest a b

/-- Every listed address lies above `low`, addresses rise, and no listed byte is 0. -/
def Memory.wfFrom : Nat → Memory → Bool
  | _, [] => true
  | low, (k, b) :: rest => decide (low ≤ k) && decide (b ≠ 0) && Memory.wfFrom (k + 1) rest

/-- The one canonical form of the storage (log 9). -/
def Memory.wf (m : Memory) : Bool := Memory.wfFrom 0 m

/-- The storage address of image byte o of an entry: block at place o / 256, offset o mod 256 (R27). -/
def Entry.address (en : Entry) (o : Nat) : Nat :=
  en.blocks.getD (o / Config.blockBytes) 0 * Config.blockBytes + o % Config.blockBytes

/-- Byte o of an entry's image; none at or beyond the image length (R36). -/
def imageByte (mem : Memory) (en : Entry) (o : Nat) : Option Nat :=
  if o < en.length then some (mem.read (en.address o)).toNat else none

/-- Write image bytes one after another from offset o (R35). -/
def writeImage (mem : Memory) (en : Entry) : Nat → List Byte → Memory
  | _, [] => mem
  | o, b :: bs => writeImage (mem.write (en.address o) b) en (o + 1) bs

/-! ### The directory (R27 to R29) -/

/-- An entry by its number. -/
def Library.entry (l : Library) (n : Nat) : Option Entry := (l.entries[n]?).join

def Library.setEntry (l : Library) (n : Nat) (en : Option Entry) : Library :=
  { l with entries := l.entries.set n en }

/-- The number of the first entry of which a test holds. -/
def Library.find (l : Library) (f : Entry → Bool) : Option Nat := l.entries.findIdx? (fun o => o.any f)

/-- The lowest-numbered FREE entry. -/
def Library.freeEntry (l : Library) : Option Nat := l.entries.findIdx? (fun o => o.isNone)

/-- The entry that is LOADING or VALIDATING. -/
def Library.openLoad (l : Library) : Option Nat := l.find (fun en => decide (en.state ≠ .ready))

/-- The READY entry that holds a tune id. -/
def Library.ready (l : Library) (tuneId : Nat) : Option Nat :=
  l.find (fun en => decide (en.state = .ready) && decide (en.tuneId = tuneId))

/-- Every block that an entry owns. -/
def Library.owned (l : Library) : List Nat :=
  l.entries.flatMap (fun o => match o with | none => [] | some en => en.blocks)

/-- The free blocks, ascending. -/
def Library.freeBlocks (l : Library) : List Nat :=
  (List.range Config.libraryBlocks).filter (fun b => !l.owned.contains b)

/-- The count of FREE entries (R46). -/
def Library.freeEntries (l : Library) : Nat := l.entries.countP (fun o => o.isNone)

/-- Blocks an image needs: its length divided by 256 and rounded up (R27). -/
def blocksFor (length : Nat) : Nat := (length + (Config.blockBytes - 1)) / Config.blockBytes

/-! ### Divisions (R3 to R6) -/

/-- The record of a place; none where it is not described. -/
def Organ.division (o : Organ) (d : Nat) : Option Division := (o.divisions[d]?).join

/-- Every key output of a division, in key order (R4). -/
def Division.keyOutputs (v : Division) : List Nat := (List.range v.keys).map (fun k => v.firstOutput + k)

/-- Every magnet output of a division. -/
def Division.magnetOutputs (v : Division) : List Nat :=
  v.stops.flatMap (fun w => [w.onMagnet, w.offMagnet])

def Division.outputs (v : Division) : List Nat := v.keyOutputs ++ v.magnetOutputs

/-- The highest pitch of the compass (R4). -/
def Division.highest (v : Division) : Nat := v.lowest + v.keys - 1

/-- The highest output, the first key output plus the key count less one (R4). A magnet output may be higher:
what DIVISION QUERY then carries is the model's reading (R10; log 39). -/
def Division.highestOutput (v : Division) : Nat := v.firstOutput + v.keys - 1

/-- The output that key k drives (R4). -/
def Division.outputOf (v : Division) (k : Nat) : Nat := v.firstOutput + k - v.lowest

/-- A key lies inside the compass. -/
def Division.inCompass (v : Division) (k : Nat) : Bool := decide (v.lowest ≤ k) && decide (k ≤ v.highest)

/-- The sense chain's length in boards (R5). -/
def senseBoardsFor (divisions : List (Option Division)) : Nat :=
  match (divisions.filterMap id).flatMap (fun v => v.stops.map (·.sense)) with
  | [] => 0
  | i :: is => (is.foldl max i) / 16 + 1

def Chain.verdict (c : Chain) (d : Nat) : Option Verdict := (c.verdicts[d]?).join

/-- The record of a division that is described and PRESENT. -/
def Env.presentDivision (e : Env) (d : Nat) : Option Division :=
  if e.chain.verdict d = some .present then e.organ.division d else none

/-- maxLead: the largest transport delay among described, PRESENT divisions, and 0 with none (R139). -/
def Env.maxLead (e : Env) : Nat :=
  ((List.range Config.divisionPlaces).filterMap (fun d => (e.presentDivision d).map (·.transport))).foldl max 0

/-- The chain is RUNNING. -/
def Env.running (e : Env) : Bool := decide (e.chain.phase = .running)

/-! ### Slots of the Keying Table (R154) -/

/-- The record in a slot; none for a free slot and for a slot that does not exist. -/
def Play.record (p : Play) (i : Nat) : Option KeyRecord := (p.slots[i]?).join

def Play.setRec (p : Play) (i : Nat) (r : Option KeyRecord) : Play := { p with slots := p.slots.set i r }

/-- A record is current while it is SOUNDING or HELD. -/
def KeyRecord.current (r : KeyRecord) : Bool := decide (r.state ≠ .scheduled)

def KeyRecord.onKey (r : KeyRecord) (division key : Nat) : Bool :=
  decide (r.division = division) && decide (r.key = key)

/-- The lowest slot whose record passes a test. -/
def Play.findSlot (p : Play) (f : KeyRecord → Bool) : Option Nat := p.slots.findIdx? (fun o => o.any f)

/-- The lowest free slot. -/
def Play.freeSlot (p : Play) : Option Nat := p.slots.findIdx? (fun o => o.isNone)

/-- The records with their slots, in ascending slot. -/
def recordsFrom : Nat → List (Option KeyRecord) → List (Nat × KeyRecord)
  | _, [] => []
  | i, none :: rest => recordsFrom (i + 1) rest
  | i, some r :: rest => (i, r) :: recordsFrom (i + 1) rest

def Play.records (p : Play) : List (Nat × KeyRecord) := recordsFrom 0 p.slots

/-- The number of slots in use. -/
def Play.slotsInUse (p : Play) : Nat := p.slots.countP (fun o => o.isSome)

/-- The slot of the current record of a key; there is at most one (R157). -/
def Play.currentSlot (p : Play) (division key : Nat) : Option Nat :=
  p.findSlot (fun r => r.current && r.onKey division key)

/-- Some record holds a section tag. -/
def Play.holdsTag (p : Play) (tag : Nat) : Bool :=
  p.slots.any (fun o => o.any (fun r => r.span.any (fun sp => decide (sp.tag = tag))))

/-- Add an expiry to those a step still takes at once. -/
def Play.push (p : Play) (d : Due) : Play := { p with atOnce := p.atOnce ++ [d] }

/-! ### Stop records (R178) -/

/-- Map a list with the number of each element. -/
def mapFrom {α β : Type} (f : Nat → α → β) : Nat → List α → List β
  | _, [] => []
  | i, a :: as => f i a :: mapFrom f (i + 1) as

/-- The record of a stop. -/
def Play.stop (p : Play) (d i : Nat) : Option StopRecord := (p.stops[d]?).bind (fun l => l[i]?)

def Play.setStop (p : Play) (d i : Nat) (r : StopRecord) : Play :=
  { p with stops := p.stops.modify d (fun l => l.set i r) }

/-- Change every stop record by its division and its index. -/
def Play.mapStops (p : Play) (f : Nat → Nat → StopRecord → StopRecord) : Play :=
  { p with stops := mapFrom (fun d l => mapFrom (f d) 0 l) 0 p.stops }

/-- The number of stop records that pass a test. -/
def Play.countStops (p : Play) (f : Nat → Nat → StopRecord → Bool) : Nat :=
  ((mapFrom (fun d l => (mapFrom (fun i r => (f d i r).toNat) 0 l).sum) 0 p.stops)).sum

/-- The drawn state of R178: `none` is UNKNOWN, `some true` is ON. -/
def StopRecord.drawn (r : StopRecord) : Option Bool :=
  match r.cause with
  | some _ => none
  | none => r.sense

/-! ### Channels (R71, R83) -/

/-- The input a channel is on: channels 0 and 1 on A, 2 and 3 on B (R68). -/
def inputOf (channel : Nat) : Nat := channel / 2

/-- A channel is live while it is enabled and its input is PRESENT (R71). -/
def Listening.live (l : Listening) (c : Nat) : Bool :=
  ((l.channels[c]?).any (fun ch => ch.params.enabled)) && ((l.inputs[inputOf c]?).any (·.present))

/-- The number of live channels. -/
def Listening.liveCount (l : Listening) : Nat := (List.range Config.channels).countP (fun c => l.live c)

/-- The choir level: the largest running level among live channels, absent when none is live (R83). -/
def Listening.choirLevel (l : Listening) : Option Nat :=
  ((List.range Config.channels).filter (fun c => l.live c)).filterMap
      (fun c => (l.channels[c]?).map (·.level))
    |>.foldl (fun acc x => some (max (acc.getD 0) x)) none

/-! ### Answers of the link (R197, R198) -/

/-- The reject reasons (R197). -/
inductive Reason where
  | badFrame | unknown | badArgument | busy | notFound | exists_ | inUse | full | inService | notReady
deriving DecidableEq, Repr

/-- R197's codes. -/
def Reason.code : Reason → Nat
  | .badFrame => 1 | .unknown => 2 | .badArgument => 3 | .busy => 4 | .notFound => 5
  | .exists_ => 6 | .inUse => 7 | .full => 8 | .inService => 9 | .notReady => 10

/-- A REJECT: code 0xFF, with the request code, the reason and the low byte of the detail (R206). -/
def rejectAnswer (code : Nat) (reason : Reason) (detail : Nat) : Answer :=
  { code := 0xFF#8,
    body := [BitVec.ofNat 8 code, BitVec.ofNat 8 reason.code, BitVec.ofNat 8 detail] }

/-- A reply: the request code plus 0x80 (R197). -/
def replyAnswer (code : Nat) (body : List Byte) : Answer :=
  { code := BitVec.ofNat 8 (code + 0x80), body := body }

/-- An answer becomes the answer in progress, and the link is busy until it has been sent. -/
def State.answer (s : State) (a : Answer) : State :=
  { s with link := { s.link with busy := true, answer := some a } }

/-- A request is carried out and replied to. -/
def State.reply (s : State) (code : Nat) (body : List Byte) : State := s.answer (replyAnswer code body)

/-- A request is refused: it changes nothing but the link's answer (R2). -/
def State.reject (s : State) (code : Nat) (reason : Reason) (detail : Nat := 0) : State :=
  s.answer (rejectAnswer code reason detail)

/-- The receiver returns to HUNT at the end of a frame (R195). -/
def State.hunt (s : State) : State := { s with link := { s.link with receiver := .hunting } }

end Sys2Proof.Machine
end

