-- ==== Sys2Proof/Machine/Flags.lean ====
section
/-! DEFINITION. The reporting state every block writes into: event latches, counters and the level of
ATTN (R201 to R204). -/

namespace Sys2Proof.Machine

/-- The event latches (R201). -/
inductive Latch where
  | reset | chain | microphone | matchMode | loadDone | loadFailed | itemStart | sectionStart | itemEnd
  | trackLost | trackRegained | holdStart | holdEnd | cipherGuard | noteStolen | applyDone | stopFault
  | handset | cue
deriving DecidableEq, Repr

/-- The bit of a latch (R201). -/
def Latch.bit : Latch → Nat
  | .reset => 0 | .chain => 1 | .microphone => 2 | .matchMode => 3 | .loadDone => 4 | .loadFailed => 5
  | .itemStart => 6 | .sectionStart => 7 | .itemEnd => 8 | .trackLost => 9 | .trackRegained => 10
  | .holdStart => 11 | .holdEnd => 12 | .cipherGuard => 13 | .noteStolen => 14 | .applyDone => 15
  | .stopFault => 16 | .handset => 17 | .cue => 18

/-- A latch is set and stays set (R202). -/
def Play.latch (p : Play) (l : Latch) : Play := { p with latches := p.latches ||| BitVec.twoPow 19 l.bit }

/-- A latch is set. -/
def Play.isLatched (p : Play) (l : Latch) : Bool := p.latches.getLsbD l.bit

/-- The counters of the whole part, and those of a channel (R204). -/
inductive Counter where
  | badFrame | integrityMiss | missed | implausible | stepLimited | tempoClamped | skipped | folded
  | cueIgnored | merged | stolen | dropped | repeatLost | cipherGuard | stopFault
  | onsets (channel : Nat) | releases (channel : Nat) | matched (channel : Nat) | duplicate (channel : Nat)
  | stray (channel : Nat) | unconfirmed (channel : Nat)
deriving DecidableEq, Repr

/-- The index of a counter (R204). -/
def Counter.index : Counter → Nat
  | .badFrame => 0 | .integrityMiss => 1 | .missed => 2 | .implausible => 3 | .stepLimited => 4
  | .tempoClamped => 5 | .skipped => 6 | .folded => 7 | .cueIgnored => 8 | .merged => 9 | .stolen => 10
  | .dropped => 11 | .repeatLost => 12 | .cipherGuard => 13 | .stopFault => 14
  | .onsets c => 15 + 6 * c | .releases c => 16 + 6 * c | .matched c => 17 + 6 * c
  | .duplicate c => 18 + 6 * c | .stray c => 19 + 6 * c | .unconfirmed c => 20 + 6 * c

/-- A counter goes up by one and saturates at 65,535 (R204). -/
def Play.count (p : Play) (c : Counter) : Play :=
  { p with counters := p.counters.modify c.index (fun n => min (n + 1) Config.counterLimit) }

/-- A counter goes up by n. -/
def Play.countMany (p : Play) (c : Counter) (n : Nat) : Play :=
  { p with counters := p.counters.modify c.index (fun m => min (m + n) Config.counterLimit) }

/-- The value of a counter. -/
def Play.counter (p : Play) (c : Counter) : Nat := p.counters.getD c.index 0

/-- A latch set in three bytes names no latch with bits 19 to 23 (R201). -/
def namesOnlyLatches (set : BitVec 24) : Bool := decide (set.toNat < 2 ^ 19)

/-- The latches a three-byte latch set names. -/
def latchesNamed (set : BitVec 24) : LatchSet := set.setWidth 19

/-- ATTN is asserted exactly when some set latch is enabled in the mask, and is low while RESETn is low
(R203). -/
def State.attn (s : State) : Bool := !s.inReset && decide (s.play.latches &&& s.link.mask ≠ 0)

/-- The link counts BAD FRAME. -/
def State.countBadFrame (s : State) : State := { s with play := s.play.count .badFrame }

end Sys2Proof.Machine
end

