-- ==== Sys2Proof/Machine/Tune.lean ====
section
/-! DEFINITION. Tune images: their fields (R207), the walk of validation (R36 to R41), and the sections
an item plays from a READY tune (R133 to R135). -/

namespace Sys2Proof.Machine

/-- A note of an event (R31, R207). -/
structure Note where
  tie : Bool
  voice : Nat
  pitch : Nat
  duration : Nat
deriving DecidableEq, Repr

/-- An event of a tune (R31, R207). -/
structure ScoreEvent where
  position : Nat
  anchor : Bool
  fermata : Bool
  lineEnd : Bool
  amen : Bool
  notes : List Note
deriving DecidableEq, Repr

/-- The header of a tune (R30, R207). -/
structure Header where
  tuneId : Nat
  voiceCount : Nat
  priorities : List Nat
  eventCount : Nat
  nominal : Nat
  least : Nat
  greatest : Nat
deriving DecidableEq, Repr

/-- A tune as it is played: its header, its events and the derived values of its entry (R48). -/
structure Tune where
  header : Header
  events : List ScoreEvent
  derived : Derived
deriving DecidableEq, Repr

/-! ### Reading an image (R207) -/

/-- Bits hi down to lo of a number. -/
def bitsOf (hi lo n : Nat) : Nat := n / 2 ^ lo % 2 ^ (hi + 1 - lo)

/-- The number in k image bytes from an offset, most significant first; none when the image ends. -/
def readNumber (get : Nat → Option Nat) : Nat → Nat → Option Nat
  | 0, _ => some 0
  | k + 1, o => do
    let hi ← get o
    let lo ← readNumber get k (o + 1)
    some (hi * 256 ^ k + lo)

/-- The header's fields in its 112 bits. -/
def headerOf (n : Nat) : Header :=
  { tuneId := bitsOf 111 96 n, voiceCount := bitsOf 95 93 n,
    priorities := (List.range Config.voices).map (fun v => bitsOf (92 - 3 * v) (90 - 3 * v) n),
    eventCount := bitsOf 74 65 n, nominal := bitsOf 64 45 n, least := bitsOf 44 25 n,
    greatest := bitsOf 24 5 n }

/-- The bytes of the header, of an event's own part, and of a note (R32). -/
def headerBytes : Nat := 14
def eventBytes : Nat := 4
def noteBytes : Nat := 4

/-- A note in its 32 bits. -/
def noteOf (n : Nat) : Note :=
  { tie := n.testBit 31, voice := bitsOf 30 28 n, pitch := bitsOf 23 16 n, duration := bitsOf 15 0 n }

/-- n notes from an offset. -/
def readNotes (get : Nat → Option Nat) : Nat → Nat → Option (List Note)
  | 0, _ => some []
  | k + 1, o => do
    let n ← readNumber get noteBytes o
    let rest ← readNotes get k (o + noteBytes)
    some (noteOf n :: rest)

/-- An event in its own 32 bits, its notes not read yet, with its note count. -/
def eventOf (n : Nat) : ScoreEvent × Nat :=
  ({ position := bitsOf 31 8 n, anchor := n.testBit 7, fermata := n.testBit 6, lineEnd := n.testBit 5,
     amen := n.testBit 4, notes := [] }, bitsOf 3 0 n)

/-- n events from an offset, as a READY tune is read: an image that ends early ends the list. -/
def readEvents (get : Nat → Option Nat) : Nat → Nat → List ScoreEvent
  | 0, _ => []
  | k + 1, o =>
    match readNumber get eventBytes o with
    | none => []
    | some n =>
      match readNotes get (eventOf n).2 (o + eventBytes) with
      | none => []
      | some notes =>
        { (eventOf n).1 with notes := notes } ::
          readEvents get k (o + eventBytes + noteBytes * (eventOf n).2)

/-- The derived values of an entry that is not READY; no such entry is played. -/
def Derived.none : Derived :=
  { eventCount := 0, verseEvents := 0, lines := 0, verseAnchors := 0, amenAnchors := 0, verseLength := 0,
    amenPresent := false, amenStart := Option.none, amenEnd := Option.none }

/-- The tune an entry holds. -/
def readTune (mem : Memory) (en : Entry) : Option Tune :=
  (readNumber (imageByte mem en) headerBytes 0).map (fun n =>
    { header := headerOf n,
      events := readEvents (imageByte mem en) (headerOf n).eventCount headerBytes,
      derived := en.derived.getD .none })

/-! ### The walk of validation (R36 to R41) -/

/-- How a walk fails: a reason and, where its rule records one, an event index. -/
structure WalkFailure where
  outcome : LoadOutcome
  event : Option Nat
deriving DecidableEq, Repr

/-- What a walk has found so far. `lastVerse` is the index, the image offset and the LINE END flag of
the latest verse event; `supplied` the offset of the event whose LINE END the walk supplies. -/
structure Walk where
  index : Nat
  offset : Nat
  prevPos : Option Nat
  prevAmen : Bool
  verseEvents : Nat
  lines : Nat
  verseAnchors : Nat
  amenAnchors : Nat
  verseLength : Nat
  amenStart : Option Nat
  amenEnd : Option Nat
  lastVerse : Option (Nat × Nat × Bool)
  supplied : Option Nat
deriving DecidableEq, Repr

def Walk.start : Walk :=
  { index := 0, offset := headerBytes, prevPos := none, prevAmen := false, verseEvents := 0, lines := 0,
    verseAnchors := 0, amenAnchors := 0, verseLength := 0, amenStart := none, amenEnd := none,
    lastVerse := none, supplied := none }

/-- A period in the legal range. -/
def periodOk (p : Nat) : Bool := decide (64000 ≤ p) && decide (p ≤ 512000)

/-- R37: the checks on the header, against the id given at TUNE OPEN. -/
def checkHeader (tuneId : Nat) (h : Header) : Option LoadOutcome :=
  if h.tuneId ≠ tuneId then some .idMismatch
  else if !(decide (1 ≤ h.voiceCount) && decide (h.voiceCount ≤ 6) &&
      h.priorities.all (fun q => decide (q ≤ 3)) && periodOk h.nominal && periodOk h.least &&
      periodOk h.greatest && decide (1 ≤ h.eventCount) && decide (h.eventCount ≤ 512)) then
    some .headerRange
  else if !(decide (h.least ≤ h.nominal) && decide (h.nominal ≤ h.greatest)) then some .periodOrder
  else none

/-- R39: the checks on one note, with the voices of the event's earlier notes. -/
def checkNote (voiceCount position : Nat) (earlierVoices : List Nat) (n : Note) : Option LoadOutcome :=
  if !(decide (24 ≤ n.pitch) && decide (n.pitch ≤ 108) && decide (1 ≤ n.duration) &&
      decide (n.duration ≤ 9600)) then some .noteRange
  else if Config.lastPosition < position + n.duration then some .endRange
  else if voiceCount ≤ n.voice then some .voiceRange
  else if earlierVoices.contains n.voice then some .duplicateVoice
  else none

/-- R39: the notes in their order; the first failing note decides. -/
def checkNotes (voiceCount position : Nat) : List Nat → List Note → Option LoadOutcome
  | _, [] => none
  | seen, n :: rest =>
    match checkNote voiceCount position seen n with
    | some o => some o
    | none => checkNotes voiceCount position (n.voice :: seen) rest

/-- R40.1: when the last verse event is finished it is inspected, and a LINE END it lacks is supplied. -/
def supplyLineEnd (w : Walk) : Except WalkFailure Walk :=
  match w.lastVerse with
  | some (i, o, false) =>
    if 16 < w.lines + 1 then .error { outcome := .lines, event := some i }
    else .ok { w with lines := w.lines + 1, supplied := some o }
  | _ => .ok w

/-- R38: the checks on one event, in their order. -/
def checkEvent (voiceCount : Nat) (w : Walk) (ev : ScoreEvent) (noteCount : Nat) : Option LoadOutcome :=
  if w.index = 0 ∧ ev.position ≠ 0 then some .firstPosition
  else if w.prevPos.any (fun q => decide (ev.position ≤ q)) then some .order
  else if w.prevAmen ∧ ¬ ev.amen then some .amenOrder
  else if noteCount < 1 ∨ 8 < noteCount then some .noteRange
  else match checkNotes voiceCount ev.position [] ev.notes with
    | some o => some o
    | none =>
      if ev.amen ∧ ev.lineEnd then some .flagPlace
      else if ev.anchor ∧ 128 < (if ev.amen then w.amenAnchors else w.verseAnchors) + 1 then some .anchors
      else if ¬ ev.amen ∧ ev.lineEnd ∧ 16 < w.lines + 1 then some .lines
      else none

/-- The greatest end position among an event's notes. -/
def ScoreEvent.stop (ev : ScoreEvent) : Nat := (ev.notes.map (fun n => ev.position + n.duration)).foldl max 0

/-- What a walk knows after an event that passed its checks. -/
def Walk.after (w : Walk) (ev : ScoreEvent) (noteCount : Nat) : Walk :=
  let w : Walk := { w with
    index := w.index + 1
    offset := w.offset + eventBytes + noteBytes * noteCount
    prevPos := some ev.position
    prevAmen := ev.amen }
  if ev.amen then
    { w with
      amenAnchors := w.amenAnchors + ev.anchor.toNat
      amenStart := some (w.amenStart.getD ev.position)
      amenEnd := some (max (w.amenEnd.getD 0) ev.stop) }
  else
    { w with
      verseEvents := w.verseEvents + 1
      lines := w.lines + ev.lineEnd.toNat
      verseAnchors := w.verseAnchors + ev.anchor.toNat
      verseLength := max w.verseLength ev.stop
      lastVerse := some (w.index - 1, w.offset - (eventBytes + noteBytes * noteCount), ev.lineEnd) }

/-- The walk over the events (R36). The last verse event is inspected as the walk meets the first amen
event, once that event's own four bytes are read (R40.1, log 17). -/
def walkEvents (get : Nat → Option Nat) (voiceCount : Nat) : Nat → Walk → Except WalkFailure Walk
  | 0, w => .ok w
  | k + 1, w =>
    match readNumber get eventBytes w.offset with
    | none => .error { outcome := .short, event := some w.index }
    | some n =>
      match (if (eventOf n).1.amen ∧ w.amenStart = none then supplyLineEnd w else .ok w) with
      | .error f => .error f
      | .ok w =>
        match readNotes get (eventOf n).2 (w.offset + eventBytes) with
        | none => .error { outcome := .short, event := some w.index }
        | some notes =>
          match checkEvent voiceCount w { (eventOf n).1 with notes := notes } (eventOf n).2 with
          | some o => .error { outcome := o, event := some w.index }
          | none => walkEvents get voiceCount k (w.after { (eventOf n).1 with notes := notes } (eventOf n).2)

/-- R40.2, R40.3: the checks after the last event. -/
def checkEnd (length : Nat) (w : Walk) : Option LoadOutcome :=
  if w.verseAnchors = 0 then some .noAnchor
  else if w.offset < length then some .long
  else none

/-- The derived values of R41. -/
def Walk.derived (w : Walk) : Derived :=
  { eventCount := w.index, verseEvents := w.verseEvents, lines := w.lines, verseAnchors := w.verseAnchors,
    amenAnchors := w.amenAnchors, verseLength := w.verseLength, amenPresent := w.amenStart.isSome,
    amenStart := w.amenStart, amenEnd := w.amenEnd }

/-- The walk of an entry's image: the derived values and the offset of a supplied LINE END, or the
failure (R36 to R41). -/
def validate (mem : Memory) (en : Entry) : Except WalkFailure (Derived × Option Nat) :=
  match readNumber (imageByte mem en) headerBytes 0 with
  | none => .error { outcome := .short, event := none }
  | some n =>
    match checkHeader en.tuneId (headerOf n) with
    | some o => .error { outcome := o, event := none }
    | none =>
      match walkEvents (imageByte mem en) (headerOf n).voiceCount (headerOf n).eventCount .start with
      | .error f => .error f
      | .ok w =>
        match (if w.amenStart = none then supplyLineEnd w else .ok w) with
        | .error f => .error f
        | .ok w =>
          match checkEnd en.length w with
          | some o => .error { outcome := o, event := none }
          | none => .ok (w.derived, w.supplied)

/-- A supplied LINE END sets bit 5 of the event's byte 3 in the stored image (R40, R207). -/
def setLineEnd (mem : Memory) (en : Entry) (o : Nat) : Memory :=
  mem.write (en.address (o + 3)) (mem.read (en.address (o + 3)) ||| 0x20#8)

/-! ### Sections of an item (R133 to R135) -/

/-- The verse events and the amen events of a tune. -/
def Tune.verse (t : Tune) : List ScoreEvent := t.events.filter (fun ev => !ev.amen)
def Tune.amen (t : Tune) : List ScoreEvent := t.events.filter (·.amen)

/-- The events up to and including the first flagged LINE END. -/
def throughLineEnd : List ScoreEvent → List ScoreEvent
  | [] => []
  | ev :: rest => if ev.lineEnd then [ev] else ev :: throughLineEnd rest

/-- The places of the events flagged LINE END. -/
def lineEndPlaces : Nat → List ScoreEvent → List Nat
  | _, [] => []
  | i, ev :: rest => if ev.lineEnd then i :: lineEndPlaces (i + 1) rest else lineEndPlaces (i + 1) rest

/-- The events after the last LINE END but one; all of them with one line (R135). -/
def lastLine (evs : List ScoreEvent) : List ScoreEvent :=
  match (lineEndPlaces 0 evs).reverse with
  | _ :: j :: _ => evs.drop (j + 1)
  | _ => evs

/-- R135. -/
def giveOutEvents (mode : GiveOut) (t : Tune) : List ScoreEvent :=
  match mode with
  | .none => []
  | .firstLine => throughLineEnd t.verse
  | .lastLine => lastLine t.verse
  | .whole => t.verse

/-- The events of a section (R134). -/
def sectionEvents (item : Item) (t : Tune) : Section → List ScoreEvent
  | .giveOut => giveOutEvents item.giveOut t
  | .verse _ => t.verse
  | .amen => t.amen

/-- The first position of a section (R134). -/
def sectionFirst (item : Item) (t : Tune) (sec : Section) : Nat :=
  match sec with
  | .giveOut => ((sectionEvents item t .giveOut).head?.map (·.position)).getD 0
  | .verse _ => 0
  | .amen => t.derived.amenStart.getD 0

/-- The end position of a section (R134). -/
def sectionStop (item : Item) (t : Tune) (sec : Section) : Nat :=
  match sec with
  | .giveOut => ((sectionEvents item t .giveOut).map (·.stop)).foldl max 0
  | .verse _ => t.derived.verseLength
  | .amen => t.derived.amenEnd.getD 0

/-- The section plan (R133). -/
def sectionPlan (item : Item) (amenPresent : Bool) : List Section :=
  (if item.giveOut = .none then [] else [.giveOut]) ++
  (List.range item.verseRegs.length).map (fun n => .verse (n + 1)) ++
  (if item.amen && amenPresent then [.amen] else [])

/-- The registration of a section (R134). -/
def sectionRegistration (item : Item) : Section → Nat
  | .giveOut => item.giveOutReg.getD 0
  | .verse n => item.verseRegs.getD (n - 1) 0
  | .amen => item.verseRegs.getLastD 0

/-- The gap before a section, in pulses (R134). -/
def sectionGap (item : Item) (plan : List Section) : Section → Nat
  | .giveOut => 0
  | .verse n => if n = 1 then (if .giveOut ∈ plan then item.introGap else 0) else item.verseGap
  | .amen => item.verseGap

/-- The written span of an event: the longest duration among its notes (R121, R141). -/
def ScoreEvent.span (ev : ScoreEvent) : Nat := (ev.notes.map (·.duration)).foldl max 0

/-- R51: the effective tempo of an item from its override and the tune's header. -/
def effectiveTempo (tempo : Option TempoOverride) (h : Header) : Bounds :=
  let least := match tempo.bind (·.least) with | none => h.least | some l => max h.least l
  let greatest := match tempo.bind (·.greatest) with | none => h.greatest | some g => min h.greatest g
  let (least, greatest) := if greatest < least then (h.least, h.greatest) else (least, greatest)
  let start := (tempo.map (·.period)).getD h.nominal
  { least := least, greatest := greatest, starting := max least (min start greatest) }

end Sys2Proof.Machine
end

