-- ==== Sys2Proof/Machine/Tempo.lean ====
section
/-! DEFINITION. The beat reference and its arithmetic: when a position is heard, which position is being
heard, and the conversions of spans (R108 to R110, R123). -/

namespace Sys2Proof.Machine

/-- A span of pulses in ticks at a period, rounded to the nearest tick, a half rounding up (R110). -/
def spanTicks (pulses period : Nat) : Nat := (pulses * period + Config.pulseUnits / 2) / Config.pulseUnits

/-- The same, limited to 2^20 ticks before it is added to or taken from R (R108). -/
def offsetTicks (pulses period : Nat) : Tick := ticks (min (spanTicks pulses period) Config.timeSpan)

/-- R108: T(x) from the beat reference alone. -/
def Tracker.plainTime (tr : Tracker) (x : Nat) : Tick :=
  if tr.refPos ≤ x then tr.refTime.getD 0 + offsetTicks (x - tr.refPos) tr.period
  else tr.refTime.getD 0 - offsetTicks (tr.refPos - x) tr.period

/-- R123: T(x) for a position above the fermata position of a hold, as though the hold were to end at
its maximum end. -/
def Tracker.holdTime (tr : Tracker) (h : Hold) (x : Nat) : Tick :=
  if x < h.resume then h.maxEnd
  else h.maxEnd + ticks (spanTicks tr.params.breath tr.period) + ticks (spanTicks (x - h.resume) tr.period)

/-- T(x): the time at which position x is heard (R108, R123). -/
def Tracker.timeOf (tr : Tracker) (x : Nat) : Tick :=
  match tr.state, tr.hold with
  | .holding, some h => if h.position < x then tr.holdTime h x else tr.plainTime x
  | _, _ => tr.plainTime x

/-- pos(t): the position heard at time t, absent while IDLE (R109). -/
def Tracker.posAt (tr : Tracker) (t : Tick) : Option Nat :=
  match tr.state with
  | .idle => none
  | .holding => some tr.refPos
  | _ =>
    if isAfter (tr.refTime.getD 0) t then some tr.refPos
    else
      let elapsed := min (t - tr.refTime.getD 0).toNat Config.timeSpan
      some (min (tr.refPos + elapsed * Config.pulseUnits / tr.period) Config.lastPosition)

/-- W: the window in ticks, rounded down with no half-offset (R110). -/
def Tracker.windowTicks (tr : Tracker) : Nat := tr.params.window * tr.period / Config.pulseUnits

/-- The tracker is LEADING, FOLLOWING or COASTING. -/
def Tracker.tracking (tr : Tracker) : Bool :=
  decide (tr.state = .leading) || decide (tr.state = .following) || decide (tr.state = .coasting)

/-- The item's bounds; the legal range where none are stored, which no section in play meets (log 23). -/
def Tracker.limits (tr : Tracker) : Bounds :=
  tr.bounds.getD { least := 64000, greatest := 512000, starting := 192000 }

/-- A number limited to a range. -/
def clampInt (lo hi n : Int) : Int := max lo (min n hi)

/-- R115: the error of an onset against the prediction, limited to W either way. -/
def Tracker.phaseError (tr : Tracker) (a : Nat) (t : Tick) : Int :=
  clampInt (-(tr.windowTicks : Int)) (tr.windowTicks : Int) (timeDiff t (tr.timeOf a))

/-- R115: the new reference time, (e × Kp + 8) / 16 rounded down from the prediction. -/
def Tracker.phaseTime (tr : Tracker) (a : Nat) (t : Tick) : Tick :=
  tr.timeOf a + BitVec.ofInt 32 ((tr.phaseError a t * (tr.params.phaseGain : Int) + 8) / 16)

/-- R116: the observed period from the last matched anchor, for a span of 120 to 1,920 pulses. -/
def Tracker.observed (tr : Tracker) (a : Nat) (t : Tick) : Option Int :=
  match tr.lastAnchor with
  | none => none
  | some m =>
    let span : Int := (a : Int) - (m.position : Int)
    if 120 ≤ span ∧ span ≤ 1920 then
      some ((timeDiff t m.time * (Config.pulseUnits : Int) + span / 2) / span)
    else none

/-- What the tempo measure of a correction does to the period, and the counters it moves (R116, R117). -/
structure TempoStep where
  period : Nat
  implausible : Bool
  limited : Bool
  clamped : Bool
deriving DecidableEq, Repr

/-- R117: the tempo step for a plausible observed period. -/
def Tracker.plausibleStep (tr : Tracker) (pobs : Int) : TempoStep :=
  let p : Int := tr.period
  let wanted := ((pobs - p) * (tr.params.tempoGain : Int) + 8) / 16
  let limit := p * (tr.params.stepLimit : Int) / 256
  let step := clampInt (-limit) limit wanted
  let bounded := clampInt (tr.limits.least : Int) (tr.limits.greatest : Int) (p + step)
  { period := bounded.toNat, implausible := false, limited := decide (step ≠ wanted),
    clamped := decide (bounded ≠ p + step) }

/-- R116: the tempo measure of a correction. -/
def Tracker.tempoStep (tr : Tracker) (a : Nat) (t : Tick) : TempoStep :=
  match tr.observed a t with
  | none => { period := tr.period, implausible := false, limited := false, clamped := false }
  | some pobs =>
    if pobs < ((tr.limits.least / 2 : Nat) : Int) ∨ 2 * (tr.limits.greatest : Int) < pobs then
      { period := tr.period, implausible := true, limited := false, clamped := false }
    else tr.plausibleStep pobs

end Sys2Proof.Machine
end

