-- ==== Sys2Proof/Machine/Keying.lean ====
section
/-! DEFINITION. The Keying Table's operations: deriving valve times, keying, handover, retirement,
taking a note, stealing, and following the tracker (R154 to R168). Each changes the slots, the counters
and latches of R176, and the list of expiries still to be taken at once. -/

namespace Sys2Proof.Machine

/-! ### Valve times (R155) -/

/-- The delays of a record's division; 0 where the place is not described, which no record's is
(log 23). -/
def Env.transport (e : Env) (d : Nat) : Nat := ((e.organ.division d).map (·.transport)).getD 0
def Env.articulation (e : Env) (d : Nat) : Nat := ((e.organ.division d).map (·.articulation)).getD 0
def Env.repeatGap (e : Env) (d : Nat) : Nat := ((e.organ.division d).map (·.repeatGap)).getD 0
def Env.minSpeak (e : Env) : Nat := e.organ.settings.minSpeak

/-- R155.1: the on time of a start position on a division. -/
def onTimeFor (e : Env) (tr : Tracker) (division start : Nat) : Tick :=
  tr.timeOf start - ticks (e.transport division)

/-- R155.2: the plain off time of an end position on a division. -/
def plainOffFor (e : Env) (tr : Tracker) (division stop : Nat) : Tick :=
  tr.timeOf stop - ticks (e.transport division) - ticks (e.articulation division)

/-- The on time of a record's successor, when it has one that is SCHEDULED. -/
def successorOn (slots : List (Option KeyRecord)) (r : KeyRecord) : Option Tick :=
  match r.successor.bind (fun j => (slots[j]?).join) with
  | some n => if n.state = .scheduled then some n.onTime else none
  | none => none

/-- R155.2 to R155.4: the off time of a record whose on time is derived. -/
def offTimeFor (e : Env) (tr : Tracker) (slots : List (Option KeyRecord)) (r : KeyRecord) (stop : Nat) : Tick :=
  let plain := plainOffFor e tr r.division stop
  let cut := match successorOn slots r with
    | none => plain
    | some t => earlier plain (t - ticks (e.repeatGap r.division))
  later cut (r.onTime + ticks e.minSpeak)

/-- The on time of a SCHEDULED record of SCORE or GIVEOUT origin, derived again. -/
def deriveOn (e : Env) (tr : Tracker) (r : KeyRecord) : KeyRecord :=
  match r.span, r.state with
  | some sp, .scheduled => { r with onTime := onTimeFor e tr r.division sp.start }
  | _, _ => r

/-- The off time of a SCHEDULED or SOUNDING record of SCORE or GIVEOUT origin, derived again; a HELD
record and a PLANNER record keep theirs. -/
def deriveOff (e : Env) (tr : Tracker) (slots : List (Option KeyRecord)) (r : KeyRecord) : KeyRecord :=
  match r.span, r.state with
  | some _, .held => r
  | some sp, _ => { r with offTime := some (offTimeFor e tr slots r sp.stop) }
  | none, _ => r

/-- Push the expiry of a record that has already come (R156, R158). -/
def pushIfDue (e : Env) (i : Nat) (p : Play) : Play :=
  match p.record i with
  | none => p
  | some r =>
    match r.state with
    | .scheduled => if hasCome e.clock r.onTime then p.push (.onTime i) else p
    | .sounding => if dueAt e.clock r.offTime then p.push (.offTime i) else p
    | .held => p

/-- A record's times derived again at once, as its state allows (R156, R158, R160 to R164). -/
def rederive (e : Env) (i : Nat) (p : Play) : Play :=
  match p.record i with
  | none => p
  | some r =>
    let r := deriveOn e p.tracker r
    let r := deriveOff e p.tracker p.slots r
    pushIfDue e i (p.setRec i (some r))

/-- The links to a slot become absent, and the off time of the record that held one is derived again
(R156, R158). -/
def unlink (e : Env) (i : Nat) (p : Play) : Play :=
  match p.findSlot (fun r => decide (r.successor = some i)) with
  | none => p
  | some j =>
    match p.record j with
    | none => p
    | some r => rederive e j (p.setRec j (some { r with successor := none }))

/-! ### Retirement and keying (R156 to R158) -/

/-- R158: a record is retired. Its slot is free, its predecessor is unlinked, and when its section tag
is held no more the Score Reader is told, which tests for the section's end. -/
def retire (e : Env) (i : Nat) (p : Play) : Play :=
  match p.record i with
  | none => p
  | some r =>
    let p := unlink e i (p.setRec i none)
    match r.span with
    | none => p
    | some sp => if p.holdsTag sp.tag then p else p.push .sectionTest

/-- Another current record of the same division and key. -/
def Play.otherCurrent (p : Play) (i : Nat) (r : KeyRecord) : Option Nat :=
  ((p.records.filter (fun x => decide (x.1 ≠ i) && x.2.current && x.2.onKey r.division r.key)).head?).map (·.1)

/-- R156, R157: a SCHEDULED record is keyed at this tick. Its predecessor is unlinked, and a current
record of its key is retired and passes its deadline on. -/
def keyRecord (e : Env) (i : Nat) (p : Play) : Play :=
  match p.record i with
  | none => p
  | some r =>
    match r.state with
    | .scheduled =>
      let older := p.otherCurrent i r
      let passed := (older.bind (fun j => p.record j)).bind (·.deadline)
      let keyed : KeyRecord :=
        { r with
          state := .sounding
          onTime := e.clock
          deadline := some (passed.getD (e.clock + ticks e.organ.settings.cipherGuard)) }
      let p := rederive e i (unlink e i (p.setRec i (some keyed)))
      match older with
      | none => p
      | some j => (retire e j p).count .repeatLost
    | _ => p

/-! ### Taking a note (R159 to R165) -/

/-- A note as the Score Reader hands it (R140). -/
structure NoteIn where
  division : Nat
  key : Nat
  voice : Nat
  priority : Nat
  start : Nat
  stop : Nat
  tie : Bool
  origin : Origin
  tag : Nat
deriving DecidableEq, Repr

/-- The set of one voice. -/
def voiceBit (v : Nat) : VoiceSet := BitVec.twoPow 6 v

/-- R159: the slot, record and span of the key's latest record, the one of the note's tag whose start
position is greatest. -/
def Play.latest (p : Play) (n : NoteIn) : Option (Nat × KeyRecord × Span) :=
  (p.records.filterMap (fun x =>
    match x.2.span with
    | some sp => if x.2.onKey n.division n.key && decide (sp.tag = n.tag) then some (x.1, x.2, sp) else none
    | none => none)).foldl
    (fun best x => match best with
      | none => some x
      | some b => if b.2.2.start < x.2.2.start then some x else some b) none

/-- The note's voice joins a record; the end position and the priority become the given end and the
larger (R160 to R163). -/
def joinRecord (e : Env) (i : Nat) (r : KeyRecord) (sp : Span) (n : NoteIn) (stop : Nat) (p : Play) : Play :=
  rederive e i (p.setRec i (some
    { r with
      voices := r.voices ||| voiceBit n.voice
      priority := max r.priority n.priority
      span := some { sp with stop := stop } }))

/-- The number of current records of a division, of any origin (R165). -/
def Play.currentOn (p : Play) (d : Nat) : Nat :=
  (p.records.filter (fun x => x.2.current && decide (x.2.division = d))).length

/-- R165: a record that may be stolen. -/
def KeyRecord.stealable (r : KeyRecord) : Bool := decide (r.state = .sounding) && decide (r.origin ≠ .planner)

/-- R165: whether candidate a is chosen before candidate b: the division with more current records, then
the lower division, the lower priority, the earlier on time, and the lower slot. -/
def stealBefore (p : Play) (a b : Nat × KeyRecord) : Bool :=
  let ca := p.currentOn a.2.division
  let cb := p.currentOn b.2.division
  if ca ≠ cb then decide (cb < ca)
  else if a.2.division ≠ b.2.division then decide (a.2.division < b.2.division)
  else if a.2.priority ≠ b.2.priority then decide (a.2.priority < b.2.priority)
  else if a.2.onTime ≠ b.2.onTime then isAfter b.2.onTime a.2.onTime
  else decide (a.1 < b.1)

/-- R165: the record stealing chooses. -/
def Play.stealChoice (p : Play) : Option Nat :=
  ((p.records.filter (fun x => x.2.stealable)).foldl
    (fun best x => match best with
      | none => some x
      | some b => if stealBefore p x b then some x else some b) none).map (·.1)

/-- R164: the record a note makes, its times not derived yet. -/
def recordOfNote (n : NoteIn) : KeyRecord :=
  { division := n.division, key := n.key, state := .scheduled, origin := n.origin,
    voices := voiceBit n.voice, priority := n.priority,
    span := some { start := n.start, stop := n.stop, tag := n.tag },
    onTime := 0, offTime := none, deadline := none, successor := none, holdKind := none }

/-- R164: the new record takes a slot, becomes its key's latest record's successor, and is keyed at once
when its on time has come. -/
def placeRecord (e : Env) (n : NoteIn) (i : Nat) (p : Play) : Play :=
  let latest := p.latest n
  let r := deriveOn e p.tracker (recordOfNote n)
  let p := p.setRec i (some (deriveOff e p.tracker p.slots r))
  let p := match latest with
    | none => p
    | some (j, l, _) => rederive e j (p.setRec j (some { l with successor := some i }))
  if hasCome e.clock r.onTime then keyRecord e i p else p

/-- R164, R165: a note makes a new record, by stealing when no slot is free, or is dropped. -/
def newRecord (e : Env) (n : NoteIn) (p : Play) : Play :=
  match p.freeSlot with
  | some i => placeRecord e n i p
  | none =>
    match p.stealChoice with
    | none => p.count .dropped
    | some i => placeRecord e n i (((retire e i p).count .stolen).latch .noteStolen)

/-- R159 to R164: the Keying Table takes a note. MERGED of a cut that stands is counted before a slot is sought,
and stays counted when the note is then dropped: the model's choice (log 48). -/
def takeNote (e : Env) (n : NoteIn) (p : Play) : Play :=
  match p.latest n with
  | none => newRecord e n p
  | some (i, r, sp) =>
    if n.tie ∧ sp.stop = n.start then joinRecord e i r sp n n.stop p
    else if sp.start = n.start then joinRecord e i r sp n (max sp.stop n.stop) p
    else if r.voices &&& voiceBit n.voice = 0 ∧ n.start < sp.stop then
      (joinRecord e i r sp n (max sp.stop n.stop) p).count .merged
    else
      let cut := onTimeFor e p.tracker n.division n.start - ticks (e.repeatGap n.division)
      if r.offTime.any (fun o => isAfter o cut) then
        if isAfter (r.onTime + ticks e.minSpeak) cut then
          (joinRecord e i r sp n (max sp.stop n.stop) p).count .merged
        else newRecord e n (p.count .merged)
      else newRecord e n p

/-! ### Following the tracker (R166 to R168) -/

/-- Put a record's slot into a list that rises in start position, so that of two records of one key the
earlier is keyed first (R156 leaves the order of a chain open; log 4). -/
def insertByStart (x : Nat × Nat) : List (Nat × Nat) → List (Nat × Nat)
  | [] => [x]
  | y :: rest => if x.1 < y.1 then x :: y :: rest else y :: insertByStart x rest

/-- The slots of SCHEDULED score records whose on time has come, in order of start position. -/
def onTimesDue (e : Env) (p : Play) : List Nat :=
  (((p.records.filter (fun x => decide (x.2.state = .scheduled) && hasCome e.clock x.2.onTime)).map
    (fun x => ((x.2.span.map (·.start)).getD 0, x.1))).foldr insertByStart []).map (·.2)

/-- The slots of SOUNDING score records whose off time has come. -/
def offTimesDue (e : Env) (p : Play) : List Nat :=
  (p.records.filter (fun x => decide (x.2.state = .sounding) && x.2.span.isSome && dueAt e.clock x.2.offTime)).map (·.1)

/-- The expiries of a re-timing that have come, to be taken at once. When both kinds have come, which
kind is taken first is a free value, as R157 gives both orders. -/
def dueOfRetiming (e : Env) (p : Play) : List Due :=
  let ons := (onTimesDue e p).map Due.onTime
  let offs := (offTimesDue e p).map Due.offTime
  if ons.isEmpty || offs.isEmpty then ons ++ offs
  else if Config.releasesFirst e.clock then offs ++ ons else ons ++ offs

/-- R155, R166: every record's on time derived again, then every off time. -/
def retimedSlots (e : Env) (tr : Tracker) (slots : List (Option KeyRecord)) : List (Option KeyRecord) :=
  let slots := slots.map (Option.map (deriveOn e tr))
  slots.map (Option.map (deriveOff e tr slots))

/-- R166: the records are re-timed from the beat reference. -/
def retime (e : Env) (p : Play) : Play :=
  let p := { p with slots := retimedSlots e p.tracker p.slots }
  { p with atOnce := p.atOnce ++ dueOfRetiming e p }

/-- R167: a SOUNDING score record whose end lies above the fermata position becomes HELD. -/
def holdRecord (position : Nat) (r : KeyRecord) : KeyRecord :=
  match r.span, r.state with
  | some sp, .sounding =>
    if position < sp.stop then { r with state := .held, holdKind := some .tracker, offTime := none } else r
  | _, _ => r

/-- R167: at a hold start. Only SCHEDULED records are re-timed. -/
def convertAtHoldStart (e : Env) (position : Nat) (p : Play) : Play :=
  let slots := p.slots.map (Option.map (holdRecord position))
  let slots := slots.map (Option.map (deriveOn e p.tracker))
  let slots := slots.map (Option.map (fun r => if r.state = .scheduled then deriveOff e p.tracker slots r else r))
  let p := { p with slots := slots }
  { p with atOnce := p.atOnce ++ (onTimesDue e p).map Due.onTime }

/-- R168.1: a record held by the tracker whose end is at or before the resume position. -/
def KeyRecord.released (resume : Nat) (r : KeyRecord) : Bool :=
  decide (r.state = .held) && decide (r.holdKind = some .tracker) && r.span.any (fun sp => decide (sp.stop ≤ resume))

/-- R168.2: another record held by the tracker becomes SOUNDING. -/
def unholdRecord (r : KeyRecord) : KeyRecord :=
  if r.state = .held ∧ r.holdKind = some .tracker then { r with state := .sounding, holdKind := none } else r

/-- R168: at a normal hold end. -/
def convertAtHoldEnd (e : Env) (resume : Nat) (p : Play) : Play :=
  let gone := (p.records.filter (fun x => x.2.released resume)).map (·.1)
  let p := gone.foldl (fun p i => retire e i p) p
  retime e { p with slots := p.slots.map (Option.map unholdRecord) }

/-! ### Retiring many records at once (R174, R175) -/

/-- Every record is retired, and no section's end is told. -/
def retireAll (p : Play) : Play := { p with slots := p.slots.map (fun _ => none) }

/-- Every record of SCORE or GIVEOUT origin is retired (R175, cause STOPPED). -/
def retireScore (p : Play) : Play :=
  { p with slots := p.slots.map (fun o => match o with
      | some r => if r.origin = .planner then some r else none
      | none => none) }

end Sys2Proof.Machine
end

