-- ==== Sys2Proof/Machine/Following.lean ====
section
/-! DEFINITION. What the blocks derive again from the beat reference: the window-close expiry, the
scheduling expiry and the fermata expiry (R90, R118, R121, R139), and the tracker update that hands a
new reference on. An expiry derived at or before the present tick joins those taken at once. -/

namespace Sys2Proof.Machine

/-! ### The section in hand (R131, R134) -/

/-- The playing item: the one at the service list's cursor (R53). -/
def Env.playingItem (e : Env) (p : Play) : Option Item := p.cursor.bind (fun i => e.items[i]?)

/-- The tune of the playing item: the entry that carries the IN_USE mark (R47, R48). -/
def Env.playingTune (e : Env) (p : Play) : Option Tune :=
  (p.inUse.bind (fun n => e.library.entry n)).bind (readTune e.library.mem)

/-- The section in hand. -/
def Reader.section (rd : Reader) : Option Section :=
  match rd.plan, rd.inHand with
  | some plan, some i => plan[i]?
  | _, _ => none

/-- The section in hand is the final one of the plan. -/
def Reader.isFinal (rd : Reader) : Bool :=
  match rd.plan, rd.inHand with
  | some plan, some i => decide (plan.length ≤ i + 1)
  | _, _ => true

/-- The events of the section in hand. -/
def Env.events (e : Env) (p : Play) : List ScoreEvent :=
  match e.playingItem p, e.playingTune p, p.reader.section with
  | some item, some tune, some sec => sectionEvents item tune sec
  | _, _, _ => []

/-- The end position of the section in hand. -/
def Env.sectionEnd (e : Env) (p : Play) : Nat :=
  match e.playingItem p, e.playingTune p, p.reader.section with
  | some item, some tune, some sec => sectionStop item tune sec
  | _, _, _ => 0

/-- The event at the cursor (R139). -/
def Env.eventAtCursor (e : Env) (p : Play) : Option (Nat × ScoreEvent) :=
  match p.reader.cursor with
  | some (.event k) => ((e.events p)[k]?).map (fun ev => (k, ev))
  | _ => none

/-- The registration in force: the section's, from the moment its apply is asked for (R64). -/
def Env.inForce (e : Env) (p : Play) : Option Nat :=
  match p.reader.flow with
  | .idle => none
  | .waiting => none
  | _ =>
    match e.playingItem p, p.reader.section with
    | some item, some sec => some (sectionRegistration item sec)
    | _, _ => none

/-- A registration record by its index; the power-up record for an index that does not exist. -/
def Env.registration (e : Env) (i : Nat) : Registration := e.regs.getD i Registration.powerUp

/-! ### Expiries derived from the reference -/

/-- The earliest PENDING anchor (R90). -/
def Matcher.firstPending (m : Matcher) : Option Anchor := m.anchors.find? (fun a => decide (a.status = .pending))

/-- R90: the window-close expiry, T(a) + W as it stands, of a far anchor more than 2^20 ticks ahead: the model's
reading beside R1's bound on stored times (log 30). -/
def windowCloseFor (m : Matcher) (tr : Tracker) : Option Tick :=
  if m.state = .opened ∧ tr.tracking then
    m.firstPending.map (fun a => tr.timeOf a.position + ticks tr.windowTicks)
  else none

def deriveWindow (e : Env) (p : Play) : Play :=
  let t := windowCloseFor p.matcher p.tracker
  let p := { p with matcher := { p.matcher with windowClose := t } }
  if dueAt e.clock t then p.push .windowClose else p

/-- R139: the scheduling expiry. -/
def schedulingFor (e : Env) (p : Play) : Option Tick :=
  if (p.reader.flow = .playing ∨ p.reader.flow = .ending) ∧ p.reader.wait = none then
    (e.eventAtCursor p).map (fun x =>
      p.tracker.timeOf x.2.position - ticks e.maxLead - ticks p.reader.horizon)
  else none

def deriveScheduling (e : Env) (p : Play) : Play :=
  let t := schedulingFor e p
  let p := { p with reader := { p.reader with schedAt := t } }
  if dueAt e.clock t then p.push .scheduling else p

/-- R121: the fermata expiry, at T of the pending fermata; it is taken while the tracker is LEADING,
FOLLOWING or COASTING. -/
def deriveFermata (e : Env) (p : Play) : Play :=
  let t := p.tracker.fermata.map (fun f => p.tracker.timeOf f.position)
  let p := { p with tracker := { p.tracker with fermataAt := t } }
  if p.tracker.tracking && dueAt e.clock t then p.push .fermata else p

/-- R118: the matcher, the reader and the tracker derive their expiries again. -/
def deriveExpiries (e : Env) (p : Play) : Play := deriveFermata e (deriveScheduling e (deriveWindow e p))

/-- R118: a tracker update other than a hold start or a hold end. -/
def trackerUpdate (e : Env) (p : Play) : Play := deriveExpiries e (retime e p)

/-! ### Misses (R120) -/

/-- R120: the tracker is told of one missed anchor. -/
def takeMiss (p : Play) : Play :=
  let tr := p.tracker
  let n := min (tr.misses + 1) 255
  match tr.state with
  | .leading => { p with tracker := { tr with misses := n } }
  | .coasting => { p with tracker := { tr with misses := n } }
  | .following =>
    if tr.params.missLimit ≤ n then
      { p with tracker := { tr with misses := n, state := .coasting } }.latch .trackLost
    else { p with tracker := { tr with misses := n } }
  | _ => p

/-! ### Corrections (R115 to R119) -/

/-- R115 to R118: the tracker after a taken correction. -/
def Tracker.corrected (tr : Tracker) (a : Nat) (t : Tick) : Tracker :=
  { tr with
    refTime := some (tr.phaseTime a t)
    refPos := a
    period := (tr.tempoStep a t).period
    lastAnchor := some { position := a, time := t }
    matched := true
    misses := 0
    state := .following }

/-- Count a counter when a condition holds. -/
def Play.countIf (p : Play) (c : Bool) (k : Counter) : Play := if c then p.count k else p

/-- R115: a correction is taken while the tracker is tracking and its tag is the tracker's. -/
def takeCorrection (e : Env) (a : Nat) (t : Tick) (tag : Option Nat) (p : Play) : Play :=
  let tr := p.tracker
  if tr.tracking ∧ tag = tr.tag then
    let step := tr.tempoStep a t
    let p := { p with tracker := tr.corrected a t }
    let p := p.countIf step.implausible .implausible
    let p := p.countIf step.limited .stepLimited
    let p := p.countIf step.clamped .tempoClamped
    let p := if tr.state = .coasting then p.latch .trackRegained else p
    trackerUpdate e p
  else p

/-! ### Holds (R121 to R127) -/

/-- R123: the hold record. -/
def holdRecordFor (e : Env) (tr : Tracker) (entry : HoldEntry) (f : Fermata) : Hold :=
  { entry := entry, position := f.position, resume := f.resume, span := f.span, entryTime := e.clock,
    minEnd := e.clock + ticks (spanTicks f.span tr.period),
    maxEnd := e.clock + ticks (min (spanTicks (tr.params.holdFactor * f.span / 2) tr.period) Config.rebaseSpan),
    cueHeld := decide (entry = .cue) }

/-- R123: the tracker enters HOLDING. A pending fermata at the held position is the one held, or is
absorbed by a cue hold; one at another position stays pending (R121, R122). -/
def enterHold (e : Env) (entry : HoldEntry) (f : Fermata) (p : Play) : Play :=
  let tr := p.tracker
  let pending := match tr.fermata with
    | some g => if g.position = f.position then none else some g
    | none => none
  let p := { p with
    tracker := { tr with
      state := .holding
      refPos := f.position
      refTime := some e.clock
      hold := some (holdRecordFor e tr entry f)
      fermata := pending }
    matcher := { p.matcher with candidates := p.matcher.candidates.map (fun _ => none) } }
  deriveExpiries e (convertAtHoldStart e f.position (p.latch .holdStart))

/-- R124: a HOLD press while HOLDING. -/
def extendHold (e : Env) (p : Play) : Play :=
  match p.tracker.hold with
  | none => p
  | some h =>
    let limit := h.entryTime + ticks Config.rebaseSpan
    let moved := earlier (h.maxEnd + ticks (spanTicks h.span p.tracker.period)) limit
    trackerUpdate e
      { p with tracker := { p.tracker with hold := some { h with cueHeld := true, maxEnd := moved } } }

/-- The state the tracker enters at a hold's end (R114, R126). -/
def Tracker.afterHold (tr : Tracker) : TrackerState := if tr.matched then .following else .leading

/-- R126: a hold ends normally at this tick. The reader's fermata wait ends when the hold was at or
above it (R141). -/
def endHold (e : Env) (p : Play) : Play :=
  let tr := p.tracker
  match tr.state, tr.hold with
  | .holding, some h =>
    let p := { p with
      tracker := { tr with
        refPos := h.resume
        refTime := some (e.clock + ticks (spanTicks tr.params.breath tr.period))
        state := tr.afterHold
        misses := 0
        lastAnchor := none
        hold := none }
      reader := { p.reader with
        wait := if p.reader.wait.any (fun w => decide (w ≤ h.position)) then none else p.reader.wait } }
    deriveExpiries e (convertAtHoldEnd e h.resume (p.latch .holdEnd))
  | _, _ => p

/-- R114: the tracker at a section end. The hold end of a section end is not a tracker update. -/
def trackerSectionEnd (p : Play) : Play :=
  let tr := { p.tracker with inPlay := false, fermata := none, fermataAt := none }
  match tr.state with
  | .holding => { p with tracker := { tr with state := tr.afterHold, hold := none } }.latch .holdEnd
  | _ => { p with tracker := tr }

/-- R114: the tracker at an item end. -/
def trackerItemEnd (p : Play) : Play :=
  let tr := p.tracker
  let p := if tr.state = .holding then p.latch .holdEnd else p
  { p with tracker := { tr with
      state := .idle, hold := none, fermata := none, fermataAt := none, lastAnchor := none, matched := false,
      misses := 0, inPlay := false } }

/-- R113: the tracker at a section start; the bounds are given at the first section of an item. -/
def trackerSectionStart (e : Env) (tag first : Nat) (given : Option Bounds) (p : Play) : Play :=
  let tr := p.tracker
  let p := if tr.state = .holding then p.latch .holdEnd else p
  { p with tracker := { tr with
      bounds := match given with | some b => some b | none => tr.bounds
      period := match given with | some b => b.starting | none => tr.period
      refTime := some e.clock
      refPos := first
      tag := some tag
      inPlay := true
      matched := false
      lastAnchor := none
      misses := 0
      fermata := none
      fermataAt := none
      hold := none
      state := .leading } }

/-- R111: the reference moves to the position heard now. -/
def rebaseNow (e : Env) (p : Play) : Play :=
  let tr := p.tracker
  match tr.posAt e.clock with
  | none => p
  | some x => trackerUpdate e { p with tracker := { tr with refPos := x, refTime := some (tr.timeOf x) } }

end Sys2Proof.Machine
end

