-- ==== Sys2Proof/Machine/Matching.lean ====
section
/-! DEFINITION. The Onset Matcher's operations: window close, duplicates, the match, candidates and
agreement, section starts and ends (R87 to R104). -/

namespace Sys2Proof.Machine

def Play.setMatcher (p : Play) (m : Matcher) : Play := { p with matcher := m }

/-! ### Anchors -/

/-- Every PENDING anchor below a position becomes MISSED. -/
def missBelow (position : Nat) (l : List Anchor) : List Anchor :=
  l.map (fun a => if a.status = .pending ∧ a.position < position then { a with status := .missed } else a)

/-- How many PENDING anchors lie below a position. -/
def pendingBelow (position : Nat) (l : List Anchor) : Nat :=
  l.countP (fun a => decide (a.status = .pending) && decide (a.position < position))

/-- The anchor at a position becomes MATCHED with a time and a channel. -/
def matchAt (position : Nat) (t : Tick) (c : Nat) (l : List Anchor) : List Anchor :=
  l.map (fun a => if a.position = position then
    { a with status := .matched, time := some t, channel := some c } else a)

/-- R91: the earliest PENDING anchor becomes MISSED, and the tracker is told. -/
def closeWindow (e : Env) (p : Play) : Play :=
  match p.matcher.firstPending with
  | none => p
  | some a =>
    let m := { p.matcher with anchors := p.matcher.anchors.map (fun b =>
      if b.position = a.position ∧ b.status = .pending then { b with status := .missed } else b) }
    deriveWindow e (takeMiss ((p.setMatcher m).count .missed))

/-! ### Reports under FIRST-ARRIVAL (R96 to R98) -/

/-- Of two items with distances, the nearer, the first on a tie. -/
def nearer {α : Type} (dist : α → Nat) (best : Option α) (x : α) : Option α :=
  match best with
  | none => some x
  | some b => if dist x < dist b then some x else some b

/-- The nearest of a list in rising position, the lower position on a tie. -/
def nearest {α : Type} (dist : α → Nat) (l : List α) : Option α := l.foldl (nearer dist) none

/-- The distance of two times. -/
def timeDistance (a b : Tick) : Nat := (timeDiff a b).natAbs

/-- R96: the nearest MATCHED anchor whose matched time lies within M of the report's time. -/
def duplicateAnchor (m : Matcher) (t : Tick) : Option Anchor :=
  nearest (fun a => (a.time.map (fun u => timeDistance t u)).getD 0)
    (m.anchors.filter (fun a => decide (a.status = .matched) && a.time.any (fun u => within m.merge t u)))

/-- R97: the nearest PENDING anchor within W of its predicted time. -/
def candidateAnchor (m : Matcher) (tr : Tracker) (t : Tick) : Option Anchor :=
  nearest (fun a => timeDistance t (tr.timeOf a.position))
    (m.anchors.filter (fun a => decide (a.status = .pending) && within tr.windowTicks t (tr.timeOf a.position)))

/-- R97: the report matches an anchor. -/
def matchAnchor (e : Env) (c : Nat) (t : Tick) (a : Anchor) (p : Play) : Play :=
  let passed := pendingBelow a.position p.matcher.anchors
  let m := { p.matcher with anchors := matchAt a.position t c (missBelow a.position p.matcher.anchors) }
  let p := ((p.setMatcher m).countMany .missed passed).count (.matched c)
  deriveWindow e (takeCorrection e a.position t m.tag p)

/-- R96 to R98: a report is tested. -/
def testReport (e : Env) (c : Nat) (t : Tick) (p : Play) : Play :=
  match duplicateAnchor p.matcher t with
  | some a => if a.channel = some c then p.count (.stray c) else p.count (.duplicate c)
  | none =>
    match candidateAnchor p.matcher p.tracker t with
    | some a => matchAnchor e c t a p
    | none => p.count (.stray c)

/-- R95: the matcher can match. -/
def matching (p : Play) : Bool := decide (p.matcher.state = .opened) && p.tracker.tracking

/-- R95 under FIRST-ARRIVAL: also how a held candidate is taken when the behaviour changes (R102). -/
def takeFirstArrival (e : Env) (c : Nat) (t : Tick) (p : Play) : Play :=
  if matching p then testReport e c t p else p.count (.stray c)

/-! ### Candidates (R99 to R102) -/

def Matcher.candidate (m : Matcher) (c : Nat) : Option Candidate := (m.candidates[c]?).join

def Matcher.setCandidate (m : Matcher) (c : Nat) (k : Option Candidate) : Matcher :=
  { m with candidates := m.candidates.set c k }

/-- R99.2, R99.3: the candidate of another channel that a report agrees with: the nearest in time, the
earlier of two at one distance. -/
def agreeing (m : Matcher) (c : Nat) (t : Tick) : Option (Nat × Candidate) :=
  ((List.range Config.channels).filterMap (fun d =>
    if d = c then none else ((m.candidate d).filter (fun k => within m.merge t k.time)).map (fun k => (d, k)))).foldl
    (fun best x => match best with
      | none => some x
      | some b =>
        if timeDistance t x.2.time < timeDistance t b.2.time then some x
        else if timeDistance t x.2.time = timeDistance t b.2.time ∧ isAfter b.2.time x.2.time then some x
        else some b) none

/-- R100: whether the held candidate, not the new report, is the taken report of an agreed pair. -/
def candidateTaken (k : Candidate) (t : Tick) (strength : Nat) : Bool :=
  isAfter t k.time || (decide (t = k.time) && decide (strength ≤ k.strength))

/-- R100: an agreed pair is consumed. -/
def takePair (e : Env) (d : Nat) (k : Candidate) (c : Nat) (t : Tick) (strength : Nat) (p : Play) : Play :=
  let p := p.setMatcher (p.matcher.setCandidate d none)
  if candidateTaken k t strength then testReport e d k.time (p.count (.duplicate c))
  else testReport e c t (p.count (.duplicate d))

/-- R99, R101: a report under AGREEMENT. -/
def takeAgreement (e : Env) (c : Nat) (t : Tick) (strength : Nat) (p : Play) : Play :=
  let p := match p.matcher.candidate c with
    | some _ => (p.setMatcher (p.matcher.setCandidate c none)).count (.unconfirmed c)
    | none => p
  match agreeing p.matcher c t with
  | some (d, k) => takePair e d k c t strength p
  | none =>
    let expiry := t + ticks p.matcher.merge
    if hasCome e.clock expiry then p.count (.unconfirmed c)
    else p.setMatcher (p.matcher.setCandidate c (some { time := t, strength := strength, expiry := expiry }))

/-- R95: an onset report reaches the matcher. -/
def takeOnset (e : Env) (c : Nat) (t : Tick) (strength : Nat) (p : Play) : Play :=
  match p.matcher.behaviour with
  | .firstArrival => takeFirstArrival e c t p
  | .agreement => if matching p then takeAgreement e c t strength p else p.count (.stray c)

/-- R101: a candidate is discarded at its expiry. -/
def expireCandidate (e : Env) (c : Nat) (p : Play) : Play :=
  match p.matcher.candidate c with
  | none => p
  | some k =>
    if hasCome e.clock k.expiry then (p.setMatcher (p.matcher.setCandidate c none)).count (.unconfirmed c) else p

/-- R103, R125: a release report is passed to a holding tracker and ends the hold when it is not
cue-held and the report's time is at or after the minimum end. -/
def takeRelease (e : Env) (t : Tick) (p : Play) : Play :=
  match p.tracker.state, p.tracker.hold with
  | .holding, some h => if !h.cueHeld && !isAfter h.minEnd t then endHold e p else p
  | _, _ => p

/-- R94: the behaviour in force. -/
def behaviourFor (mode : MatchMode) (liveCount : Nat) : MatchMode :=
  if mode = .agreement ∧ 2 ≤ liveCount then .agreement else .firstArrival

/-- Put a candidate into a list that rises in time, the lower channel first at one time (R102). -/
def insertByTime (x : Nat × Candidate) : List (Nat × Candidate) → List (Nat × Candidate)
  | [] => [x]
  | y :: rest => if isAfter x.2.time y.2.time then y :: insertByTime x rest else x :: y :: rest

/-- The candidates held, earliest first. -/
def heldCandidates (m : Matcher) : List (Nat × Candidate) :=
  ((List.range Config.channels).filterMap (fun c => (m.candidate c).map (fun k => (c, k)))).foldr insertByTime []

/-! ### Sections and items (R89, R92) -/

/-- A PENDING anchor. -/
def Anchor.fresh (position : Nat) : Anchor := { position := position, status := .pending, time := none, channel := none }

/-- R89: the anchors of a section's events. -/
def anchorsOf (evs : List ScoreEvent) : List Anchor := (evs.filter (·.anchor)).map (fun ev => Anchor.fresh ev.position)

/-- R89: the matcher at a section start. A give-out has no anchors. -/
def matcherSectionStart (sec : Section) (tag : Nat) (evs : List ScoreEvent) (m : Matcher) : Matcher :=
  { m with
    state := if sec = .giveOut then .giveOut else .opened
    anchors := if sec = .giveOut then [] else anchorsOf evs
    tag := some tag
    candidates := m.candidates.map (fun _ => none)
    windowClose := none }

/-- R92: the matcher at a section end. -/
def matcherSectionEnd (p : Play) : Play :=
  let n := p.matcher.anchors.countP (fun a => decide (a.status = .pending))
  (p.setMatcher { p.matcher with
    state := .closed
    anchors := p.matcher.anchors.map (fun a => if a.status = .pending then { a with status := .missed } else a)
    candidates := p.matcher.candidates.map (fun _ => none)
    windowClose := none }).countMany .missed n

/-- R92: the matcher at an item end. The list's tag is kept for reading (log 22). -/
def matcherItemEnd (p : Play) : Play :=
  p.setMatcher { p.matcher with
    state := .idle, anchors := [], candidates := p.matcher.candidates.map (fun _ => none), windowClose := none }

end Sys2Proof.Machine
end

