-- ==== Sys2Proof/Machine/Sections.lean ====
section
/-! DEFINITION. Gaps and section starts (R137, R138), and the Stop Action unit's apply, whose completion
begins a gap (R178 to R187). -/

namespace Sys2Proof.Machine

/-! ### The section start (R138) -/

/-- R138: the reader at a section start, with the cursor on the first event. -/
def Reader.atSectionStart (rd : Reader) (evs : List ScoreEvent) : Reader :=
  { rd with
    flow := .playing
    tag := (rd.tag + 1) % 65536
    cursor := some (if evs.isEmpty then .pastEnd else .event 0)
    wait := none
    gapEnd := none }

/-- R113, R138: the bounds are given at the first section of an item. -/
def Reader.givenBounds (rd : Reader) : Option Bounds := if rd.inHand = some 0 then rd.tempo else none

/-- R113, R138: the tracker and the matcher are told of a section start, latch SECTION START is raised,
and the update is handed on. -/
def startSection (e : Env) (p : Play) : Play :=
  match e.playingItem p, e.playingTune p, p.reader.section with
  | some item, some tune, some sec =>
    let evs := sectionEvents item tune sec
    let given := p.reader.givenBounds
    let p := { p with reader := p.reader.atSectionStart evs }
    let p := trackerSectionStart e p.reader.tag (sectionFirst item tune sec) given p
    let p := p.setMatcher (matcherSectionStart sec p.reader.tag evs p.matcher)
    trackerUpdate e ((p.latch .sectionStart).push .sectionTest)
  | _, _, _ => p

/-- R137: the gap of the section in hand in ticks, at the period in force. -/
def gapTicks (e : Env) (p : Play) : Nat :=
  match e.playingItem p, p.reader.plan, p.reader.section with
  | some item, some plan, some sec => spanTicks (sectionGap item plan sec) p.tracker.period
  | _, _, _ => 0

/-- R137: the gap begins at the apply's completion; a gap of 0 ticks is no gap. -/
def beginGap (e : Env) (p : Play) : Play :=
  if gapTicks e p = 0 then startSection e p
  else { p with reader := { p.reader with flow := .gap, gapEnd := some (e.clock + ticks (gapTicks e p)) } }

/-! ### Stops (R178 to R184) -/

/-- A stop that is PULSING or SETTLING. -/
def StopRecord.moving (r : StopRecord) : Bool := decide (r.action = .pulsing) || decide (r.action = .settling)

/-- R183: a pulse begins toward a desired state. -/
def beginPulse (e : Env) (want : Bool) (r : StopRecord) : StopRecord :=
  let pulseEnd := e.clock + ticks e.organ.settings.pulseTime
  { r with
    action := .pulsing
    desired := some want
    drive := some (if want then .on else .off)
    pulseEnd := some pulseEnd
    timeout := some (later (e.clock + ticks e.organ.settings.stopTimeout) (pulseEnd + ticks 4)) }

/-- R182.3: a stop that is at rest is taken up. An ABANDONED cause becomes absent when a pulse begins. -/
def takeUpStop (e : Env) (want : Bool) (r : StopRecord) : StopRecord :=
  if r.drawn = some want then { r with handSet := false, desired := some want, action := .done }
  else beginPulse e want
    { r with handSet := false, cause := if r.cause = some .abandoned then none else r.cause }

/-- R186: a stop's part in a retarget, by its action state. -/
def retargetStop (e : Env) (want : Bool) (r : StopRecord) : StopRecord :=
  match r.action with
  | .pulsing => { r with handSet := false, desired := some want }
  | .settling =>
    if r.desired = some want then { r with handSet := false }
    else beginPulse e want { r with handSet := false }
  | _ => takeUpStop e want r

/-- Whether a retarget (or, of a stop at rest, a take-up) begins a pulse. -/
def beginsPulse (want : Bool) (r : StopRecord) : Bool :=
  match r.action with
  | .pulsing => false
  | .settling => decide (r.desired ≠ some want)
  | _ => decide (r.drawn ≠ some want)

/-- R182.2: the desired state of a stop in a registration. -/
def Registration.wants (reg : Registration) (d i : Nat) : Bool :=
  (reg.divisions[d]?).any (fun en => en.drawn.getLsbD i)

/-- The division is described and PRESENT, so that an apply takes its stops up (R182). -/
def Env.takesUp (e : Env) (d : Nat) : Bool := (e.presentDivision d).isSome

/-! ### The apply (R181 to R187) -/

/-- A stop that is DONE or FAULT. -/
def StopRecord.finished (r : StopRecord) : Bool := decide (r.action = .done) || decide (r.action = .fault)

/-- The record is one that the apply has taken up: its division is described and PRESENT, and it holds the
desired state that the taking up gave it (R182). -/
def Env.takenUp (e : Env) (d : Nat) (r : StopRecord) : Bool := e.takesUp d && r.desired.isSome

/-- R185: every stop the apply has taken up is DONE or FAULT. A stop whose record a DIVISION CLEAR or DIVISION
PUT has removed was taken up and is neither, so the apply stays IN FLIGHT until the closing sequence abandons
it (R15): the model's choice (log 36). -/
def applyDone (e : Env) (p : Play) : Bool :=
  decide (p.countStops (fun d _ r => e.takenUp d r && !r.finished) = 0) &&
  decide (p.countStops (fun d _ r => e.takenUp d r) = p.apply.taken)

/-- R185: an apply completes when every stop it has taken up is DONE or FAULT. A reader that is
PREPARING goes on to its gap. -/
def completeApply (e : Env) (p : Play) : Play :=
  if p.apply.state = .inFlight ∧ applyDone e p then
    let p := { p with
      apply := { p.apply with state := .complete, endTick := some e.clock, readerWaiting := false } }.latch .applyDone
    if p.reader.flow = .preparing then beginGap e p else p
  else p

/-- The apply record's pulse count goes up, to 65,535 at most, the end of R181's range: the model's choice (log 45). -/
def Apply.addPulses (a : Apply) (n : Nat) : Apply := { a with pulses := min (a.pulses + n) 65535 }

/-- R182, R186: the stop records and the counts of an apply's start or retarget. -/
def takeUpStops (e : Env) (reg : Registration) (p : Play) : Play :=
  let pulses := p.countStops (fun d i r => e.takesUp d && beginsPulse (Registration.wants reg d i) r)
  let taken := p.countStops (fun d _ _ => e.takesUp d)
  let p := p.mapStops (fun d i r => if e.takesUp d then retargetStop e (Registration.wants reg d i) r else r)
  { p with apply := { p.apply.addPulses pulses with taken := taken } }

/-- R182, R186: an apply is asked for. With none in flight it starts one; else it retargets the one in
flight. It completes at once when no stop moves. -/
def requestApply (e : Env) (registration : Nat) (origin : ApplyOrigin) (p : Play) : Play :=
  let a : Apply :=
    if p.apply.state = .inFlight then
      { p.apply with
        registration := some registration, origin := some origin
        readerWaiting := p.apply.readerWaiting || decide (origin = .reader) }
    else
      { state := .inFlight, registration := some registration, origin := some origin,
        startTick := some e.clock, endTick := none, taken := 0, pulses := 0, faults := 0,
        readerWaiting := decide (origin = .reader) }
  completeApply e (takeUpStops e (e.registration registration) { p with apply := a })

/-- R183, R184, R186: a stop's pulse end. The drive ends; the stop settles when its desired state is the
pulse's direction, and otherwise is pulsed the other way. -/
def endPulse (e : Env) (d i : Nat) (p : Play) : Play :=
  match p.stop d i with
  | none => p
  | some r =>
    if r.action = .pulsing ∧ dueAt e.clock r.pulseEnd then
      let want := r.desired.getD (decide (r.drive = some .on))
      if r.drive = some (if want then .on else .off) then
        p.setStop d i { r with action := .settling, drive := none, pulseEnd := none }
      else
        { p.setStop d i (beginPulse e want r) with apply := p.apply.addPulses 1 }
    else p

/-- R184: a stop still SETTLING at its timeout becomes FAULT. The fault count goes up to 64 at most (R181), also
where stops fail again after a retarget: the model's choice (log 45). -/
def timeOutStop (e : Env) (d i : Nat) (p : Play) : Play :=
  match p.stop d i with
  | none => p
  | some r =>
    if r.action = .settling ∧ dueAt e.clock r.timeout then
      let p := { p.setStop d i { r with action := .fault, timeout := none } with
        apply := { p.apply with faults := min (p.apply.faults + 1) 64 } }
      completeApply e ((p.count .stopFault).latch .stopFault)
    else p

/-- R184: a SETTLING stop whose sense value agrees with its desired state becomes DONE. -/
def settleStop (r : StopRecord) : StopRecord :=
  if r.action = .settling ∧ r.sense = r.desired then { r with action := .done, timeout := none } else r

/-- R180: the bit is a hand-set change of this stop. A stop whose cause is ABANDONED takes no mark and raises no
latch, since R179 does not trust its contact: the model's choice (log 49). -/
def handSetBy (bit : Bool) (r : StopRecord) : Bool :=
  decide (r.cause = none) && r.sense.any (fun b => decide (b ≠ bit)) &&
  (decide (r.action = .idle) || decide (r.action = .done))

/-- R179, R180, R184: a stop takes its sense bit. -/
def senseStop (bit : Bool) (r : StopRecord) : StopRecord :=
  let marked := handSetBy bit r || r.handSet
  match r.cause with
  | some .abandoned => { r with sense := some bit }
  | some .unread => settleStop { r with sense := some bit, cause := none }
  | none => settleStop { r with sense := some bit, handSet := marked }

/-- The bit of the sense image for a stop (R5, R21). -/
def Env.senseBit (e : Env) (bits : SenseImage) (d i : Nat) : Bool :=
  ((e.organ.division d).bind (fun v => v.stops[i]?)).any (fun w => bits.getLsbD w.sense)

/-- R179: every stop record takes its bit. -/
def senseRead (e : Env) (bits : SenseImage) (p : Play) : Play :=
  let hands := p.countStops (fun d i r => handSetBy (e.senseBit bits d i) r)
  let p := p.mapStops (fun d i r => senseStop (e.senseBit bits d i) r)
  completeApply e (if hands = 0 then p else p.latch .handset)

/-- R187: a stop an abandoned apply was moving. -/
def abandonStop (r : StopRecord) : StopRecord :=
  { r with drive := none, pulseEnd := none, timeout := none, action := .idle, cause := some .abandoned }

/-- R187: the apply record of an abandoned apply. -/
def Apply.abandon (a : Apply) (now : Tick) : Apply :=
  if a.state = .inFlight then { a with state := .abandoned, endTick := some now } else a

/-- R187: an apply in flight is abandoned by a chain fault. -/
def abandonApply (e : Env) (p : Play) : Play :=
  let p := p.mapStops (fun _ _ r => if r.moving then abandonStop r else r)
  { p with apply := p.apply.abandon e.clock }

/-- R179, R187: the closing sequence abandons the apply, and every other stop is UNREAD. -/
def closeStops (e : Env) (p : Play) : Play :=
  let p := p.mapStops (fun _ _ r =>
    if r.moving then abandonStop r else { r with sense := none, cause := some .unread })
  { p with apply := p.apply.abandon e.clock }

end Sys2Proof.Machine
end

