-- ==== Sys2Proof/Machine/Flow.lean ====
section
/-! DEFINITION. The Score Reader's flow: taking an item up, preparing a section, scheduling events,
ending sections and items, and the presses of the three buttons (R132 to R150). -/

namespace Sys2Proof.Machine

/-! ### Taking up and preparing (R133, R136) -/

/-- The READY entry that holds a tune id, and its tune. -/
def Env.playable (e : Env) (tuneId : Nat) : Option (Nat × Tune) :=
  (e.library.ready tuneId).bind (fun n =>
    ((e.library.entry n).bind (readTune e.library.mem)).map (fun t => (n, t)))

/-- R133: an item becomes the playing item, with its tune's entry in use. -/
def takeUp (i n : Nat) (item : Item) (tune : Tune) (p : Play) : Play :=
  { p with
    cursor := some i
    inUse := some n
    reader := { p.reader with
      plan := some (sectionPlan item tune.derived.amenPresent)
      inHand := none
      tempo := some (effectiveTempo item.tempo tune.header) } }.latch .itemStart

/-- R136: the reader enters PREPARING for a section and asks for the apply of its registration. -/
def prepare (e : Env) (i : Nat) (p : Play) : Play :=
  let p := { p with reader := { p.reader with flow := .preparing, inHand := some i } }
  match e.playingItem p, p.reader.section with
  | some item, some sec => requestApply e (sectionRegistration item sec) .reader p
  | _, _ => p

/-- The reader waits for GO (R132, R144). -/
def waitForGo (p : Play) : Play := { p with reader := { p.reader with flow := .waiting } }

/-! ### Ending an item (R144 to R146) -/

/-- R175: what the Keying Table does at an item end, by the cause. -/
def retireForEnd : EndCause → Play → Play
  | .complete, p => p
  | .noTune, p => p
  | .stopped, p => retireScore p
  | .cancelled, p => retireAll p
  | .fault, p => retireAll p

/-- R146: the reader at an item end. -/
def Reader.atItemEnd (rd : Reader) (cause : EndCause) : Reader :=
  { rd with
    flow := .idle, plan := none, inHand := none, cursor := none, schedAt := none, wait := none,
    gapEnd := none, tempo := none, cause := some cause }

/-- R146: an item end. -/
def itemEnd (cause : EndCause) (p : Play) : Play :=
  let p := retireForEnd cause (matcherItemEnd (trackerItemEnd p))
  { p with reader := p.reader.atItemEnd cause, inUse := none }.latch .itemEnd

/-- R144: the end action moves the cursor to the next item and takes it up. `go` is what the reader
then does. -/
def takeNext (e : Env) (next : Nat) (go : Play → Play) (p : Play) : Play :=
  match (e.items[next]?).bind (fun it => (e.playable it.tuneId).map (fun x => (it, x))) with
  | some (it, n, tune) => go (takeUp next n it tune p)
  | none => { p with reader := { p.reader with cause := some .noTune } }

/-- R144: the end action of an item that ended COMPLETE at index i of the list. -/
def endAction (e : Env) (action : EndAction) (i : Nat) (p : Play) : Play :=
  if e.items.length ≤ i + 1 then { p with cursor := none }
  else
    let p := { p with cursor := some (i + 1) }
    match action with
    | .halt => p
    | .waitCue => takeNext e (i + 1) waitForGo p
    | .continue => takeNext e (i + 1) (prepare e 0) p

/-! ### Ending a section (R143) -/

/-- R143: both conditions of a section's end hold. -/
def sectionOver (p : Play) : Bool :=
  (decide (p.reader.flow = .playing) || decide (p.reader.flow = .ending)) &&
  decide (p.reader.cursor = some .pastEnd) && !p.holdsTag p.reader.tag

/-- R143: the reader clears its event cursor and fermata wait, and with them its scheduling expiry. -/
def Reader.atSectionEnd (rd : Reader) : Reader := { rd with cursor := none, wait := none, schedAt := none }

/-- R143, R144: a section ends, and the next is prepared or the item completes. -/
def endSection (e : Env) (p : Play) : Play :=
  let p := matcherSectionEnd (trackerSectionEnd p)
  let p := { p with reader := p.reader.atSectionEnd }
  if p.reader.isFinal then
    match p.cursor, e.playingItem p with
    | some i, some item => endAction e item.endAction i (itemEnd .complete p)
    | _, _ => itemEnd .complete p
  else prepare e ((p.reader.inHand.getD 0) + 1) p

/-- R143: the section's end is tested. -/
def testSectionEnd (e : Env) (p : Play) : Play := if sectionOver p then endSection e p else p

/-! ### Scheduling an event (R139 to R141) -/

/-- R140.2: the key a note is handed on, raised or lowered by octaves into the compass. -/
def Division.foldKey (v : Division) (k : Int) : Int :=
  if k < (v.lowest : Int) then k + 12 * (((v.lowest : Int) - k + 11) / 12)
  else if (v.highest : Int) < k then k - 12 * ((k - (v.highest : Int) + 11) / 12)
  else k

/-- R140: a note is handed on one route, or skipped. -/
def handOnRoute (e : Env) (tune : Tune) (origin : Origin) (tag position : Nat) (note : Note) (p : Play)
    (route : Route) : Play :=
  match e.presentDivision route.division with
  | none => p.count .skipped
  | some v =>
    let k : Int := (note.pitch : Int) + route.shift
    let folded := v.foldKey k
    takeNote e
      { division := route.division, key := folded.toNat, voice := note.voice,
        priority := tune.header.priorities.getD note.voice 0, start := position,
        stop := position + note.duration, tie := note.tie, origin := origin, tag := tag }
      (p.countIf (decide (folded ≠ k)) .folded)

/-- R140: a note is handed on every route of its voice. -/
def handNote (e : Env) (reg : Registration) (tune : Tune) (origin : Origin) (tag position : Nat) (p : Play)
    (note : Note) : Play :=
  (reg.voices.getD note.voice []).foldl (handOnRoute e tune origin tag position note) p

/-- R134: the origin of a section's notes. -/
def originOf : Section → Origin
  | .giveOut => .giveOut
  | .verse _ => .score
  | .amen => .score

/-- R141: the position an event at place k resumes at: the next event's, or the section's end. -/
def resumeAfter (evs : List ScoreEvent) (sectionEnd k : Nat) : Nat :=
  ((evs[k + 1]?).map (·.position)).getD sectionEnd

/-- R141: a FERMATA event hands the tracker its pending fermata and sets the wait. -/
def setFermata (e : Env) (f : Fermata) (p : Play) : Play :=
  deriveFermata e { p with
    tracker := { p.tracker with fermata := some f }
    reader := { p.reader with wait := some f.position } }

/-- R140: the cursor moves on; past the final section's last event the reader enters ENDING. -/
def Reader.advance (rd : Reader) (k total : Nat) : Reader :=
  if k + 1 < total then { rd with cursor := some (.event (k + 1)) }
  else { rd with cursor := some .pastEnd, flow := if rd.isFinal then .ending else rd.flow }

/-- R140: the event at place k of the section in hand is scheduled. -/
def scheduleEvent (e : Env) (item : Item) (tune : Tune) (sec : Section) (k : Nat) (ev : ScoreEvent)
    (p : Play) : Play :=
  let evs := sectionEvents item tune sec
  let reg := e.registration (sectionRegistration item sec)
  let p := ev.notes.foldl (handNote e reg tune (originOf sec) p.reader.tag ev.position) p
  let p := if ev.fermata then
      setFermata e { position := ev.position, span := ev.span,
                     resume := resumeAfter evs (sectionStop item tune sec) k } p
    else p
  deriveScheduling e ({ p with reader := p.reader.advance k evs.length }.push .sectionTest)

/-- R140: at a scheduling expiry that has come. -/
def schedule (e : Env) (p : Play) : Play :=
  if dueAt e.clock p.reader.schedAt then
    match e.playingItem p, e.playingTune p, p.reader.section, e.eventAtCursor p with
    | some item, some tune, some sec, some (k, ev) => scheduleEvent e item tune sec k ev p
    | _, _, _, _ => { p with reader := { p.reader with schedAt := none } }
  else p

/-! ### Presses (R142, R148 to R150) -/

/-- How many events of the section have been scheduled. -/
def Env.scheduledEvents (e : Env) (p : Play) : Nat :=
  match p.reader.cursor with
  | some (.event k) => k
  | some .pastEnd => (e.events p).length
  | none => 0

/-- R142: the held event: the latest scheduled event whose heard time T(position) has come. Just after a hold
end whose breath is longer than the span from the event held to its resume position, that event's heard time
lies ahead again, and the test, not R124's remark that the event just held is held again, decides: the model's
choice (log 43). -/
def Env.heldEvent (e : Env) (p : Play) : Option Fermata :=
  let evs := e.events p
  ((List.range (e.scheduledEvents p)).reverse.find? (fun k =>
      (evs[k]?).any (fun ev => hasCome e.clock (p.tracker.timeOf ev.position)))).bind (fun k =>
    (evs[k]?).map (fun ev =>
      { position := ev.position, span := ev.span, resume := resumeAfter evs (e.sectionEnd p) k }))

/-- The reader is PLAYING or ENDING. -/
def Reader.inSection (rd : Reader) : Bool := decide (rd.flow = .playing) || decide (rd.flow = .ending)

/-- R148: whether a GO press is taken. -/
def goTaken (p : Play) : Bool :=
  decide (p.reader.flow = .waiting) || (p.reader.inSection && decide (p.tracker.state = .holding))

/-- R148: a GO press. -/
def pressGo (e : Env) (p : Play) : Play :=
  if p.reader.flow = .waiting then prepare e 0 p
  else if goTaken p then endHold e p
  else p

/-- R149, R122: whether a HOLD press is taken. -/
def holdTaken (e : Env) (p : Play) : Bool :=
  p.reader.inSection &&
  (decide (p.tracker.state = .holding) ||
    (p.tracker.tracking && p.tracker.inPlay && (e.heldEvent p).isSome))

/-- R142: the wait of a cue hold, unless one is set at or above its position. -/
def waitForHold (position : Nat) (wait : Option Nat) : Option Nat :=
  match wait with
  | some w => if position ≤ w then some w else some position
  | none => some position

/-- R149: a HOLD press. -/
def pressHold (e : Env) (p : Play) : Play :=
  if holdTaken e p then
    if p.tracker.state = .holding then extendHold e p
    else match e.heldEvent p with
      | some f => enterHold e .cue f
          { p with reader := { p.reader with wait := waitForHold f.position p.reader.wait } }
      | none => p
  else p

/-- R150: a STOP press, and STOP ITEM. -/
def pressStop (p : Play) : Play := if p.reader.flow = .idle then p else itemEnd .stopped p

/-- R147: whether a press is taken. -/
def pressTaken (e : Env) (b : Button) (p : Play) : Bool :=
  match b with
  | .go => goTaken p
  | .hold => holdTaken e p
  | .stop => decide (p.reader.flow ≠ .idle)

/-- R147: the last cue, latch CUE and counter CUE IGNORED of a counted press. -/
def recordPress (b : Button) (now : Tick) (taken : Bool) (p : Play) : Play :=
  ({ p with reader := { p.reader with lastCue := some { button := b, tick := now, taken := taken } } }.latch .cue).countIf
    (!taken) .cueIgnored

/-- R147: a counted press. -/
def press (e : Env) (b : Button) (p : Play) : Play :=
  let p := recordPress b e.clock (pressTaken e b p) p
  match b with
  | .go => pressGo e p
  | .hold => pressHold e p
  | .stop => pressStop p

end Sys2Proof.Machine
end

