-- ==== Sys2Proof/Machine/Cascade.lean ====
section
/-! DEFINITION. The expiries a step takes at once (R118, R139, R143, R156, R166): each effect that
derives an expiry at or before the present tick, or that empties a section's tag, puts it in the list
`atOnce`, and the step goes on until the list is empty. Every entry is taken against the state at its
turn: one whose time has moved later, or whose thing has gone, does nothing. -/

namespace Sys2Proof.Machine

/-! ### What has come -/

/-- R156: the record in a slot is SCHEDULED and its on time has come. -/
def onTimeDue (e : Env) (p : Play) (i : Nat) : Bool :=
  (p.record i).any (fun r => decide (r.state = .scheduled) && hasCome e.clock r.onTime)

/-- R158: the record in a slot is SOUNDING and its off time has come. -/
def offTimeDue (e : Env) (p : Play) (i : Nat) : Bool :=
  (p.record i).any (fun r => decide (r.state = .sounding) && dueAt e.clock r.offTime)

/-- R169: the record in a slot is current and its deadline has come. -/
def deadlineDue (e : Env) (p : Play) (i : Nat) : Bool :=
  (p.record i).any (fun r => r.current && dueAt e.clock r.deadline)

/-- R91: the window-close expiry has come. -/
def windowDue (e : Env) (p : Play) : Bool := dueAt e.clock p.matcher.windowClose

/-- R140: the scheduling expiry has come. -/
def schedulingDue (e : Env) (p : Play) : Bool := dueAt e.clock p.reader.schedAt

/-- R121: the fermata expiry has come, for a tracker that is LEADING, FOLLOWING or COASTING. -/
def fermataDue (e : Env) (p : Play) : Bool :=
  p.tracker.tracking && p.tracker.fermata.isSome && dueAt e.clock p.tracker.fermataAt

/-! ### Taking them -/

/-- R156: an on-time expiry. -/
def takeOnTime (e : Env) (i : Nat) (p : Play) : Play := if onTimeDue e p i then keyRecord e i p else p

/-- R158: an off-time expiry. -/
def takeOffTime (e : Env) (i : Nat) (p : Play) : Play := if offTimeDue e p i then retire e i p else p

/-- R169: a deadline expiry. -/
def takeDeadline (e : Env) (i : Nat) (p : Play) : Play :=
  if deadlineDue e p i then ((retire e i p).count .cipherGuard).latch .cipherGuard else p

/-- R91: a window-close expiry. -/
def takeWindowClose (e : Env) (p : Play) : Play := if windowDue e p then closeWindow e p else p

/-- R121: a fermata expiry. -/
def takeFermata (e : Env) (p : Play) : Play :=
  if fermataDue e p then
    match p.tracker.fermata with
    | some f => enterHold e .fermata f p
    | none => p
  else p

/-- One expiry of the list. -/
def takeDue (e : Env) : Due → Play → Play
  | .onTime i, p => takeOnTime e i p
  | .offTime i, p => takeOffTime e i p
  | .windowClose, p => takeWindowClose e p
  | .scheduling, p => schedule e p
  | .fermata, p => takeFermata e p
  | .sectionTest, p => testSectionEnd e p

/-- The first expiry of the list is taken, and so on, at most as many times as the fuel says. -/
def settle (e : Env) : Nat → Play → Play
  | 0, p => p
  | n + 1, p =>
    match p.atOnce with
    | [] => p
    | d :: rest => settle e n (takeDue e d { p with atOnce := rest })

/-- How many expiries a step takes at most: far more than any step can have (log 5). -/
def settleFuel : Nat := 16777216

/-- An effect on what playing changes, and the expiries it makes due at once. -/
def State.act (s : State) (f : Env → Play → Play) : State :=
  { s with play := settle s.toEnv settleFuel (f s.toEnv s.play) }

end Sys2Proof.Machine
end

