-- ==== Sys2Proof/Machine/Operands.lean ====
section
/-! DEFINITION. The operands of the requests: tuning values clamped into their ranges (R2), and the
tests that refuse a request, each with its reject reason and detail byte (R7, R33, R54, R62). -/

namespace Sys2Proof.Machine

/-- R2: a tuning value out of its range is clamped to the nearer bound. -/
def clamp (lo hi n : Nat) : Nat := max lo (min n hi)

/-- A tuning value given, clamped, or marked as not given, its default. -/
def clampOr (dflt lo hi : Nat) (o : Option Nat) : Nat := (o.map (clamp lo hi)).getD dflt

/-- The value lies in a range. -/
def inRange (lo hi n : Nat) : Bool := decide (lo ≤ n) && decide (n ≤ hi)

/-- The first element of a list that some other element, or the list's own repetition, makes a repeat:
whether a list holds one value twice. -/
def hasRepeat : List Nat → Bool
  | [] => false
  | x :: xs => xs.contains x || hasRepeat xs

/-- One of the high halves a detail may carry: the only one, or the one the free value names (log 15). -/
def namedFailure (now : Tick) (l : List Nat) : Nat :=
  match l with
  | [] => 0
  | [x] => x
  | xs => xs.getD (Config.failureNamed now % xs.length) 0

/-- The numbers of the elements of a list of which a test holds. -/
def placesWhere {α : Type} (f : Nat → α → Bool) (l : List α) : List Nat :=
  (mapFrom (fun i a => if f i a then [i] else []) 0 l).flatten

/-! ### DIVISION PUT (R7, R8) -/

/-- The record that a DIVISION PUT stores, its tuning fields clamped (R8). -/
def storedDivision (a : DivisionArg) : Division :=
  { lowest := a.lowest, keys := a.keys, firstOutput := a.firstOutput, stops := a.stops,
    transport := clampOr 0 0 400 a.transport,
    articulation := clampOr 40 0 100 a.articulation,
    repeatGap := clampOr 30 10 100 a.repeatGap,
    swell := if a.swell = 0 then none else some (a.swell - 1) }

/-- The records of the other described divisions (R7.7). -/
def Organ.others (o : Organ) (d : Nat) : List Division := (o.divisions.set d none).filterMap id

/-- The places a failing test concerns: 0 for the record itself, and then the stops it fails for. -/
def failures (whole : Bool) (stops : List Nat) : List Nat := (if whole then [0] else []) ++ stops

/-- R7.4: structural ranges. -/
def rangeFailures (a : DivisionArg) : List Nat :=
  failures (!(inRange 24 72 a.lowest && inRange 12 61 a.keys && decide (a.firstOutput ≤ 511) &&
      decide (a.stopCount ≤ 16) && decide (a.stops.length = a.stopCount) && decide (a.swell ≤ 2)))
    (placesWhere (fun _ w => decide (63 < w.sense)) a.stops)

/-- R7.5: the highest key and the outputs. -/
def outputFailures (v : Division) : List Nat :=
  failures (decide (127 < v.highest) || decide (511 < v.highestOutput))
    (placesWhere (fun _ w => decide (511 < w.onMagnet) || decide (511 < w.offMagnet)) v.stops)

/-- R7.6: the stops that share an output with a key, with themselves or with another stop. -/
def sharedFailures (v : Division) : List Nat :=
  placesWhere (fun i w =>
    v.keyOutputs.contains w.onMagnet || v.keyOutputs.contains w.offMagnet || decide (w.onMagnet = w.offMagnet) ||
    ((v.stops.eraseIdx i).any (fun u =>
      decide (u.onMagnet = w.onMagnet) || decide (u.onMagnet = w.offMagnet) ||
      decide (u.offMagnet = w.onMagnet) || decide (u.offMagnet = w.offMagnet)))) v.stops

/-- R7.7: outputs of another described division. -/
def foreignFailures (others : List Division) (v : Division) : List Nat :=
  let taken := others.flatMap Division.outputs
  failures (v.keyOutputs.any taken.contains)
    (placesWhere (fun _ w => taken.contains w.onMagnet || taken.contains w.offMagnet) v.stops)

/-- R7.8: sense indexes shared in the record or with another described division. -/
def senseFailures (others : List Division) (v : Division) : List Nat :=
  let taken := others.flatMap (fun u => u.stops.map (·.sense))
  placesWhere (fun i w => taken.contains w.sense ||
    ((v.stops.eraseIdx i).any (fun u => decide (u.sense = w.sense)))) v.stops

/-- R7.9: the swell output of another described division. -/
def swellTaken (others : List Division) (v : Division) : Bool :=
  v.swell.isSome && others.any (fun u => decide (u.swell = v.swell))

/-- The detail byte of R7: the test in the low half, a concerned stop's index in the high half. -/
def stopDetail (now : Tick) (test : Nat) (l : List Nat) : Nat := 16 * namedFailure now l + test

/-- R7: the tests of DIVISION PUT in their order. -/
def divisionPutTest (s : State) (d : Nat) (a : DivisionArg) : Option (Reason × Nat) :=
  let v := storedDivision a
  let others := s.organ.others d
  if 3 < d then some (.badArgument, 1)
  else if s.play.reader.flow ≠ .idle then some (.inService, 2)
  else if s.chain.phase = .surveying then some (.busy, 3)
  else if rangeFailures a ≠ [] then some (.badArgument, stopDetail s.clock 4 (rangeFailures a))
  else if outputFailures v ≠ [] then some (.badArgument, stopDetail s.clock 5 (outputFailures v))
  else if sharedFailures v ≠ [] then some (.badArgument, stopDetail s.clock 6 (sharedFailures v))
  else if foreignFailures others v ≠ [] then some (.badArgument, stopDetail s.clock 7 (foreignFailures others v))
  else if senseFailures others v ≠ [] then some (.badArgument, stopDetail s.clock 8 (senseFailures others v))
  else if swellTaken others v then some (.badArgument, 9)
  else none

/-- R9: the tests of DIVISION CLEAR. -/
def divisionClearTest (s : State) (d : Nat) : Option (Reason × Nat) :=
  if 3 < d then some (.badArgument, 0)
  else if s.play.reader.flow ≠ .idle then some (.inService, 0)
  else if s.chain.phase = .surveying then some (.busy, 0)
  else if (s.organ.division d).isNone then some (.notFound, 0)
  else none

/-- R16: the tests of SURVEY. -/
def surveyTest (s : State) : Option (Reason × Nat) :=
  if s.play.reader.flow ≠ .idle then some (.inService, 0)
  else if s.chain.phase = .surveying then some (.busy, 0)
  else none

/-! ### ORGAN PUT (R11, R190) -/

/-- R11: the six values clamped; the two swell levels are stored in order (R190). -/
def storedSettings (a : OrganArg) : Settings :=
  let low := min a.levelLow 2097152
  let high := min a.levelHigh 2097152
  { minSpeak := clamp 20 100 a.minSpeak, cipherGuard := clamp 2000 60000 a.cipherGuard,
    pulseTime := clamp 20 250 a.pulseTime, stopTimeout := clamp 100 1000 a.stopTimeout,
    levelLow := min low high, levelHigh := max low high }

/-! ### TUNE OPEN (R33) -/

/-- R33: the tests of TUNE OPEN in their order. -/
def tuneOpenTest (l : Library) (tuneId length : Nat) : Option (Reason × Nat) :=
  if tuneId = 0 ∨ 65535 ≤ tuneId ∨ length < 22 ∨ 19472 < length then some (.badArgument, 0)
  else if (l.find (fun en => decide (en.tuneId = tuneId))).isSome then some (.exists_, 0)
  else if l.openLoad.isSome then some (.busy, 0)
  else if l.freeEntry.isNone then some (.full, 1)
  else if l.freeBlocks.length < blocksFor length then some (.full, 2)
  else none

/-! ### Service items (R50 to R54) -/

/-- The modes in the order of R50's range; NONE for a number that names none, which R54 refuses. -/
def giveOutOf : Nat → GiveOut
  | 1 => .firstLine | 2 => .lastLine | 3 => .whole | _ => .none

def endActionOf : Nat → EndAction
  | 1 => .waitCue | 2 => .continue | _ => .halt

def GiveOut.code : GiveOut → Nat
  | .none => 0 | .firstLine => 1 | .lastLine => 2 | .whole => 3

def EndAction.code : EndAction → Nat
  | .halt => 0 | .waitCue => 1 | .continue => 2

/-- A period clamped into the legal range (R51). -/
def clampPeriod (n : Nat) : Nat := clamp 64000 512000 n

/-- R51: the override as stored: clamped, and a least above the greatest swapped with it. -/
def storedOverride (o : TempoOverride) : TempoOverride :=
  match o.least, o.greatest with
  | some l, some g =>
    { period := clampPeriod o.period, least := some (min (clampPeriod l) (clampPeriod g)),
      greatest := some (max (clampPeriod l) (clampPeriod g)) }
  | l, g => { period := clampPeriod o.period, least := l.map clampPeriod, greatest := g.map clampPeriod }

/-- R50: the item as stored. -/
def storedItem (a : ItemArg) : Item :=
  { tuneId := a.tuneId, giveOut := giveOutOf a.giveOutMode,
    giveOutReg := if a.giveOutMode = 0 then none else a.giveOutReg,
    verseRegs := a.verseRegs, amen := decide (a.amenFlag = 1), tempo := a.tempo.map storedOverride,
    endAction := endActionOf a.endAction,
    introGap := clampOr 240 0 960 a.introGap, verseGap := clampOr 240 0 960 a.verseGap }

/-- R54.3: the detail numbers of the structural fields outside their ranges. -/
def itemRangeFailures (a : ItemArg) : List Nat :=
  (if inRange 1 65534 a.tuneId then [] else [2]) ++ (if inRange 1 12 a.verseCount then [] else [3]) ++
  (if 3 < a.giveOutMode then [4] else []) ++
  (if a.giveOutReg.any (fun r => decide (31 < r)) then [5] else []) ++
  (if a.verseRegs.any (fun r => decide (31 < r)) then [6] else []) ++
  (if 2 < a.endAction then [7] else []) ++ (if 1 < a.amenFlag then [8] else [])

/-- R54.3 to R54.5: the tests of the fields, with their details; of several fields outside their ranges
the free value names one (log 16). -/
def itemFieldTest (now : Tick) (a : ItemArg) : Option Nat :=
  if itemRangeFailures a ≠ [] then some (namedFailure now (itemRangeFailures a))
  else if a.verseRegs.length ≠ a.verseCount then some 6
  else if a.giveOutMode ≠ 0 ∧ a.giveOutReg.isNone then some 5
  else none

/-- R54: the tests of ITEM PUT in their order. -/
def itemPutTest (s : State) (i : Nat) (a : ItemArg) : Option (Reason × Nat) :=
  if s.items.length < i then some (.badArgument, 1)
  else if Config.serviceItems ≤ s.items.length then some (.full, 0)
  else (itemFieldTest s.clock a).map (fun f => (.badArgument, f))

/-- The index is that of the playing item (R53). -/
def State.playingIndex (s : State) (i : Nat) : Bool :=
  decide (s.play.cursor = some i) && decide (s.play.reader.flow ≠ .idle)

/-- R56: the tests of ITEM REPLACE in their order. -/
def itemReplaceTest (s : State) (i : Nat) (a : ItemArg) : Option (Reason × Nat) :=
  if s.items.length ≤ i then some (.notFound, 0)
  else if s.playingIndex i then some (.inUse, 0)
  else (itemFieldTest s.clock a).map (fun f => (.badArgument, f))

/-- R57: the tests of ITEM REMOVE in their order. -/
def itemRemoveTest (s : State) (i : Nat) : Option (Reason × Nat) :=
  if s.items.length ≤ i then some (.notFound, 0)
  else if s.playingIndex i then some (.inUse, 0)
  else none

/-- R55: the cursor after an insertion at an index. -/
def cursorAfterInsert (i : Nat) (cursor : Option Nat) : Option Nat :=
  cursor.map (fun c => if i ≤ c then c + 1 else c)

/-- R57: the cursor after a removal at an index, of a list that then has this length. -/
def cursorAfterRemove (i left : Nat) : Option Nat → Option Nat
  | none => none
  | some c =>
    if i < c then some (c - 1)
    else if c < i then some c
    else if i < left then some c
    else none

/-! ### REG PUT (R62, R63) -/

/-- The stop indexes a set of bits draws. -/
def stopsDrawn (set : StopSet) : List Nat := (List.range 16).filter (fun i => set.getLsbD i)

/-- A shift is −12, 0 or +12. -/
def shiftOk (n : Int) : Bool := decide (n = -12) || decide (n = 0) || decide (n = 12)

/-- R62.6: a voice's routes hold one route twice. -/
def routeRepeats : List Route → Bool
  | [] => false
  | r :: rs => rs.contains r || routeRepeats rs

/-- The detail byte of R62. -/
def placeDetail (now : Tick) (test : Nat) (l : List Nat) : Nat := 16 * namedFailure now l + test

/-- The divisions of test 2, of test 3, and the voices of tests 4 to 6 of R62 that fail. -/
def undescribedDrawn (o : Organ) (r : Registration) : List Nat :=
  placesWhere (fun d e => decide (e.drawn ≠ 0) && (o.division d).isNone) r.divisions
def staleDrawn (o : Organ) (r : Registration) : List Nat :=
  placesWhere (fun d e => (stopsDrawn e.drawn).any (fun i =>
    decide (((o.division d).map (·.stops.length)).getD 0 ≤ i))) r.divisions
def badRoutes (r : Registration) : List Nat :=
  placesWhere (fun _ l => decide (2 < l.length) || l.any (fun x => !shiftOk x.shift)) r.voices
/-- R62, test 5. The place that a refusal names is the voice that holds the route: the model's choice
(log 41). -/
def undescribedRoutes (o : Organ) (r : Registration) : List Nat :=
  placesWhere (fun _ l => l.any (fun x => (o.division x.division).isNone)) r.voices
def repeatedRoutes (r : Registration) : List Nat := placesWhere (fun _ l => routeRepeats l) r.voices

/-- R62: the tests of REG PUT in their order. -/
def regPutTest (s : State) (i : Nat) (r : Registration) : Option (Reason × Nat) :=
  if 31 < i then some (.badArgument, 1)
  else if undescribedDrawn s.organ r ≠ [] then
    some (.badArgument, placeDetail s.clock 2 (undescribedDrawn s.organ r))
  else if staleDrawn s.organ r ≠ [] then some (.badArgument, placeDetail s.clock 3 (staleDrawn s.organ r))
  else if badRoutes r ≠ [] then some (.badArgument, placeDetail s.clock 4 (badRoutes r))
  else if undescribedRoutes s.organ r ≠ [] then
    some (.badArgument, placeDetail s.clock 5 (undescribedRoutes s.organ r))
  else if repeatedRoutes r ≠ [] then some (.badArgument, placeDetail s.clock 6 (repeatedRoutes r))
  else none

/-- R63: a division entry as stored: clamped, and a least above the greatest swapped with it. -/
def storedEntry (e : DivisionEntry) : DivisionEntry :=
  { e with
    least := min (min e.least 1023) (min e.greatest 1023)
    greatest := max (min e.least 1023) (min e.greatest 1023) }

/-- R63: the record as stored. -/
def storedRegistration (r : Registration) : Registration :=
  { r with divisions := r.divisions.map storedEntry }

/-! ### Parameters (R72, R93, R112, R151, R190) -/

/-- R72: the parameters as stored. Enabled is 0 for on and 1 for off, in the order of R71's table (R199). -/
def storedMic (a : MicArg) : MicParams :=
  { enabled := decide (a.enabled = 0), acousticDelay := min a.acousticDelay 150, rise := clamp 1 64 a.rise,
    floor := min a.floor 2097152, refractory := clamp 20 400 a.refractory, ratio := clamp 1 15 a.ratio,
    confirm := clamp 2 50 a.confirm }

/-- R72: the tests of MIC PUT. -/
def micPutTest (c : Nat) (a : MicArg) : Option (Reason × Nat) :=
  if 3 < c then some (.badArgument, 0)
  else if 1 < a.enabled then some (.badArgument, 2)
  else none

/-- R93: the mode that a value names. -/
def modeOf : Nat → Option MatchMode
  | 0 => some .firstArrival
  | 1 => some .agreement
  | _ => none

def MatchMode.code : MatchMode → Nat
  | .firstArrival => 0 | .agreement => 1

/-- R112: the parameters as stored. -/
def storedTrack (a : TrackArg) : TrackParams :=
  { phaseGain := min a.phaseGain 16, tempoGain := min a.tempoGain 16, stepLimit := clamp 1 64 a.stepLimit,
    missLimit := clamp 1 8 a.missLimit, window := clamp 24 240 a.window, breath := min a.breath 480,
    holdFactor := clamp 2 16 a.holdFactor }

/-- R132: the tests of PLAY in their order. Start mode NOW is 0 and ON_CUE 1: the model's choice (log 44). -/
def playTest (s : State) (i startMode : Nat) : Option (Reason × Nat) :=
  if 1 < startMode then some (.badArgument, 0)
  else if s.play.reader.flow ≠ .idle then some (.inService, 0)
  else if s.chain.phase ≠ .running then some (.notReady, 0)
  else match s.items[i]? with
    | none => some (.notFound, 1)
    | some it => if (s.toEnv.playable it.tuneId).isNone then some (.notFound, 2) else none

/-- R170: the tests of KEY SOUND in their order. -/
def keySoundTest (s : State) (d k : Nat) : Option (Reason × Nat) :=
  if 3 < d then some (.badArgument, 1)
  else match s.toEnv.presentDivision d with
    | none => some (.notFound, 0)
    | some v =>
      if !v.inCompass k then some (.badArgument, 2)
      else match s.play.currentSlot d k with
        | some i => some (.inUse, i)
        | none => if s.play.freeSlot.isNone then some (.full, 0) else none

/-- R170: the stored duration of KEY SOUND. -/
def storedDuration (guard duration : Nat) : Nat := min (clamp 10 60000 duration) guard

/-- R173: the slot KEY LOOKUP answers with by division and key: the current record's, or that of the
SCHEDULED record whose on time is earliest. -/
def Play.lookup (p : Play) (d k : Nat) : Option Nat :=
  match p.currentSlot d k with
  | some i => some i
  | none =>
    ((p.records.filter (fun x => x.2.onKey d k)).foldl (fun best x => match best with
      | none => some x
      | some b => if isAfter b.2.onTime x.2.onTime then some x else some b) none).map (·.1)

/-! ### Carrying a request (R197, R198) -/

/-- R198: a request that arrives while the link is busy is not carried out. REJECT BUSY becomes the
waiting answer, or, with one already waiting, the frame is discarded and BAD FRAME goes up. -/
def State.whileBusy (s : State) (a : Answer) (counts : Bool) : State :=
  match s.link.waiting with
  | some _ => s.countBadFrame
  | none =>
    let s := { s with link := { s.link with waiting := some a } }
    if counts then s.countBadFrame else s

/-- A request that its block tests, and carries out when no test fails. -/
def State.tested (s : State) (code : Nat) (test : Option (Reason × Nat)) (carry : State → State) : State :=
  match test with
  | some (r, d) => s.reject code r d
  | none => carry s

/-- An event that the part takes whenever RESETn is high. -/
def State.event (s : State) (f : State → State) : State := if s.inReset then s else f s

end Sys2Proof.Machine
end

