-- ==== Sys2Proof/Machine/Layouts.lean ====
section
/-! DEFINITION. The bodies of the replies, by the conventions of R199 and the layouts of R208 and R209:
numbers most significant byte first, states coded in the order of their tables, sets as bits, absent
fields as zeros behind presence bits at the head of the body. Where the manual leaves a layout open,
log 13, 14 and 33 say what is chosen. -/

namespace Sys2Proof.Machine

/-! ### Fields -/

/-- A mark that is set, or a yes, is 1 (log 33). -/
def putMark (b : Bool) : List Byte := putNum 1 b.toNat

/-- A tick, in 4 bytes. -/
def putTick (t : Tick) : List Byte := putNum 4 t.toNat

/-- A field that may be absent, 0 when it is. -/
def putOpt (k : Nat) (o : Option Nat) : List Byte := putNum k (o.getD 0)
def putOptTick (o : Option Tick) : List Byte := putTick (o.getD 0)

/-- The presence bytes: one bit for each field, eight to a byte, the first in bit 0. -/
def putPresence : List Bool → List Byte
  | [] => []
  | [a] => [presenceByte [a]]
  | [a, b] => [presenceByte [a, b]]
  | [a, b, c] => [presenceByte [a, b, c]]
  | [a, b, c, d] => [presenceByte [a, b, c, d]]
  | [a, b, c, d, e] => [presenceByte [a, b, c, d, e]]
  | [a, b, c, d, e, f] => [presenceByte [a, b, c, d, e, f]]
  | [a, b, c, d, e, f, g] => [presenceByte [a, b, c, d, e, f, g]]
  | a :: b :: c :: d :: e :: f :: g :: h :: rest => presenceByte [a, b, c, d, e, f, g, h] :: putPresence rest

/-- A latch set, in 3 bytes (R201). -/
def putLatches (l : LatchSet) : List Byte := putNum 3 l.toNat

/-! ### Codes of states and kinds (R199) -/

def Verdict.code : Option Verdict → Nat
  | none => 0 | some .present => 1 | some .absent => 2
def ChainPhase.code : ChainPhase → Nat
  | .unsurveyed => 0 | .surveying => 1 | .running => 2 | .fault => 3
def FaultCause.code : Option FaultCause → Nat
  | none => 0 | some .noReturn => 1 | some .integrity => 2
def EntryState.code : EntryState → Nat
  | .loading => 1 | .validating => 2 | .ready => 3
def LoadOutcome.code : LoadOutcome → Nat
  | .ok => 0 | .idMismatch => 1 | .headerRange => 2 | .periodOrder => 3 | .short => 4 | .firstPosition => 5
  | .order => 6 | .amenOrder => 7 | .noteRange => 8 | .endRange => 9 | .voiceRange => 10
  | .duplicateVoice => 11 | .flagPlace => 12 | .anchors => 13 | .lines => 14 | .noAnchor => 15 | .long => 16
  | .aborted => 17 | .reset => 18
def MatcherState.code : MatcherState → Nat
  | .idle => 0 | .giveOut => 1 | .opened => 2 | .closed => 3
def AnchorStatus.code : AnchorStatus → Nat
  | .pending => 0 | .matched => 1 | .missed => 2
def TrackerState.code : TrackerState → Nat
  | .idle => 0 | .leading => 1 | .following => 2 | .coasting => 3 | .holding => 4
def HoldEntry.code : HoldEntry → Nat
  | .fermata => 0 | .cue => 1
def FlowState.code : FlowState → Nat
  | .idle => 0 | .waiting => 1 | .preparing => 2 | .gap => 3 | .playing => 4 | .ending => 5
def EndCause.code : Option EndCause → Nat
  | none => 0 | some .complete => 1 | some .stopped => 2 | some .cancelled => 3 | some .fault => 4
  | some .noTune => 5
def buttonNumber : Button → Nat
  | .go => 1 | .hold => 2 | .stop => 3
def RecState.code : RecState → Nat
  | .scheduled => 0 | .sounding => 1 | .held => 2
def Origin.code : Origin → Nat
  | .score => 0 | .giveOut => 1 | .planner => 2
def HoldKind.code : Option HoldKind → Nat
  | none => 0 | some .tracker => 1 | some .host => 2
def ActionState.code : ActionState → Nat
  | .idle => 0 | .pulsing => 1 | .settling => 2 | .done => 3 | .fault => 4
def UnknownCause.code : UnknownCause → Nat
  | .unread => 0 | .abandoned => 1
/-- ON, OFF, UNKNOWN, in the order of R178. -/
def drawnCode : Option Bool → Nat
  | some true => 0 | some false => 1 | none => 2
/-- ON, OFF, in the order of R178. -/
def desiredCode : Bool → Nat
  | true => 0 | false => 1
def Magnet.code : Option Magnet → Nat
  | some .on => 0 | some .off => 1 | none => 2
def ApplyState.code : ApplyState → Nat
  | .none => 0 | .inFlight => 1 | .complete => 2 | .abandoned => 3
def ApplyOrigin.code : ApplyOrigin → Nat
  | .reader => 0 | .host => 1
def ResetCause.code : ResetCause → Nat
  | .power => 0 | .pin => 1 | .request => 2

/-! ### Organ (R8, R10, R11) -/

/-- A stored record with these bytes for its stops (R3). -/
def putDivisionWith (stops : List Byte) (v : Division) : List Byte :=
  putNum 1 v.lowest ++ putNum 1 v.keys ++ putNum 2 v.firstOutput ++ stops ++ putNum 2 v.transport ++
  putNum 1 v.articulation ++ putNum 1 v.repeatGap ++ putNum 1 ((v.swell.map (· + 1)).getD 0)

/-- R8: the stored record, with the stop count and the stop list's own count byte, as DIVISION PUT carries them
(log 13). -/
def putDivision (v : Division) : List Byte :=
  putDivisionWith (putNum 1 v.stops.length ++ putList putStop v.stops) v

/-- R10: the record, its compass, its highest output and its verdict. The stop count stands once, as the stop
list's count byte, so that a record of 16 stops fills the 63 bytes of a body (log 13). -/
def putDivisionQuery (v : Division) (verdict : Option Verdict) : List Byte :=
  putDivisionWith (putList putStop v.stops) v ++ putNum 1 v.lowest ++ putNum 1 v.highest ++ putNum 2 v.highestOutput ++
  putNum 1 (Verdict.code verdict)

def putSettings (t : Settings) : List Byte :=
  putNum 1 t.minSpeak ++ putNum 2 t.cipherGuard ++ putNum 1 t.pulseTime ++ putNum 2 t.stopTimeout ++
  putNum 3 t.levelLow ++ putNum 3 t.levelHigh

/-! ### Library (R34, R43 to R46) -/

/-- R46: what every TUNE QUERY reply ends with. -/
def putFree (l : Library) : List Byte := putNum 2 l.freeBlocks.length ++ putNum 1 l.freeEntries

def putDerived (d : Derived) : List Byte :=
  putNum 2 d.eventCount ++ putNum 2 d.verseEvents ++ putNum 1 d.lines ++ putNum 1 d.verseAnchors ++
  putNum 1 d.amenAnchors ++ putNum 3 d.verseLength ++ putMark d.amenPresent ++ putOpt 3 d.amenStart ++
  putOpt 3 d.amenEnd

/-- R46: the fields of an entry that is not FREE. -/
def putEntry (mem : Memory) (inUse : Bool) (en : Entry) : List Byte :=
  putNum 2 en.tuneId ++ putNum 2 en.length ++ putNum 1 en.blocks.length ++ putNum 1 (en.blocks.headD 0) ++
  (match en.state with
   | .ready =>
     let h := (readTune mem en).map (·.header)
     putNum 1 ((h.map (·.voiceCount)).getD 0) ++ putNum 3 ((h.map (·.nominal)).getD 0) ++
     putNum 3 ((h.map (·.least)).getD 0) ++ putNum 3 ((h.map (·.greatest)).getD 0) ++
     putDerived (en.derived.getD .none) ++ putMark en.lineEndSupplied ++ putMark inUse
   | _ => putNum 2 en.cursor ++ putNum 2 (en.length - en.cursor))

/-- R46: the reply of TUNE QUERY about entry n. -/
def putTuneQuery (l : Library) (inUse : Option Nat) (n : Nat) : List Byte :=
  match l.entry n with
  | none => putPresence [false, false] ++ putNum 1 n ++ putNum 1 0 ++ putFree l
  | some en =>
    let d := en.derived.getD .none
    putPresence [d.amenStart.isSome, d.amenEnd.isSome] ++ putNum 1 n ++ putNum 1 en.state.code ++
    putEntry l.mem (decide (inUse = some n)) en ++ putFree l

/-- R43: the last-load result. Bit 0 of the presence byte marks the result and bit 1 its event index, and the
bytes of what is absent still stand and read 0: the model's choice (log 40). -/
def putLoadResult (r : Option LoadResult) : List Byte :=
  putPresence [r.isSome, (r.bind (·.event)).isSome] ++ putNum 2 ((r.map (·.tuneId)).getD 0) ++
  putNum 1 ((r.map (·.outcome.code)).getD 0) ++ putNum 2 ((r.bind (·.event)).getD 0)

/-! ### Service (R55 to R58, R63, R66) -/

/-- The presence byte of an item's reply: its optional fields, and the cursor. -/
def itemReplyPresence (it : Item) (cursor : Option Nat) : List Byte :=
  putPresence [it.giveOutReg.isSome, it.tempo.isSome, (it.tempo.bind (·.least)).isSome,
    (it.tempo.bind (·.greatest)).isSome, cursor.isSome]

def putItem (it : Item) : List Byte :=
  putNum 2 it.tuneId ++ putNum 1 it.verseRegs.length ++ putNum 1 it.giveOut.code ++ putOpt 1 it.giveOutReg ++
  putList (putNum 1) it.verseRegs ++ putMark it.amen ++ putOpt 3 (it.tempo.map (·.period)) ++
  putOpt 3 (it.tempo.bind (·.least)) ++ putOpt 3 (it.tempo.bind (·.greatest)) ++ putNum 1 it.endAction.code ++
  putNum 2 it.introGap ++ putNum 2 it.verseGap

/-- R52: the list length and the cursor. -/
def putListState (length : Nat) (cursor : Option Nat) : List Byte := putNum 1 length ++ putOpt 1 cursor

/-- R55, R56: the reply of ITEM PUT and ITEM REPLACE. -/
def putItemReply (i : Nat) (it : Item) (length : Nat) (cursor : Option Nat) : List Byte :=
  itemReplyPresence it cursor ++ putNum 1 i ++ putItem it ++ putListState length cursor

/-- R57: the reply of ITEM REMOVE. -/
def putRemoveReply (i length : Nat) (cursor : Option Nat) : List Byte :=
  putPresence [cursor.isSome] ++ putNum 1 i ++ putListState length cursor

/-- R58: the reply of ITEM QUERY. -/
def putItemQuery (i : Nat) (it : Item) (length : Nat) (cursor : Option Nat) (playing ready : Bool) : List Byte :=
  putItemReply i it length cursor ++ putMark playing ++ putMark ready

/-- R65: a stored division entry is stale. -/
def staleEntry (o : Organ) (d : Nat) (e : DivisionEntry) : Bool :=
  (stopsDrawn e.drawn).any (fun i => decide (((o.division d).map (·.stops.length)).getD 0 ≤ i))

/-- R65: a stored route is stale. -/
def staleRoute (o : Organ) (r : Route) : Bool := (o.division r.division).isNone

/-- A set of the places, 0 upward, that a list of marks sets. -/
def setOfMarks (l : List Bool) : Nat := l.foldr (fun b acc => 2 * acc + b.toNat) 0

/-- R66: the reply of REG QUERY: bit d marks division d's entry stale, bit 2v + r route r of voice v. -/
def putRegQuery (o : Organ) (i : Nat) (r : Registration) (inForce : Bool) : List Byte :=
  putNum 1 i ++ putRegistration r ++
  putNum 1 (setOfMarks (mapFrom (staleEntry o) 0 r.divisions)) ++
  putNum 2 (setOfMarks (r.voices.flatMap (fun l =>
    [(l[0]?).any (staleRoute o), (l[1]?).any (staleRoute o)]))) ++
  putMark inForce

/-! ### Listening and matching (R72, R85, R93, R105) -/

/-- On and off, coded in the order in which R71's table lists them (R199). -/
def enabledCode : Bool → Nat
  | true => 0 | false => 1

def putMicParams (m : MicParams) : List Byte :=
  putNum 1 (enabledCode m.enabled) ++ putNum 1 m.acousticDelay ++ putNum 1 m.rise ++ putNum 3 m.floor ++
  putNum 2 m.refractory ++ putNum 1 m.ratio ++ putNum 1 m.confirm

/-- R85: the reply of MIC QUERY. An input is coded PRESENT 0, LOST 1, and a channel QUIET 0, VOICED 1. -/
def putMicQuery (ch : Channel) (present live : Bool) (onsets releases : Nat) (clock : Tick) : List Byte :=
  putPresence [ch.peak.isSome, ch.runStart.isSome, ch.lastOnset.isSome, ch.lastRelease.isSome] ++
  putMicParams ch.params ++ putNum 1 (!present).toNat ++ putMark live ++ putNum 1 ch.voiced.toNat ++
  putNum 3 ch.level ++ putOpt 3 ch.peak ++ putNum 1 ch.run ++ putOptTick ch.runStart ++
  putOptTick (ch.lastOnset.map (·.frame)) ++ putOptTick (ch.lastOnset.map (·.time)) ++
  putOpt 3 (ch.lastOnset.map (·.strength)) ++ putOptTick ch.lastRelease ++
  putNum 2 onsets ++ putNum 2 releases ++ putTick clock

/-- R105: part 2 of TRACK QUERY. The position of the earliest PENDING anchor is carried while there is one,
whether or not a window-close expiry is kept: the model's reading (log 42). -/
def putMatcher (m : Matcher) (live : Nat) : List Byte :=
  let count := fun st => m.anchors.countP (fun a => decide (a.status = st))
  putPresence ([m.tag.isSome, m.firstPending.isSome, m.windowClose.isSome] ++ m.candidates.map (·.isSome)) ++
  putNum 1 m.state.code ++ putNum 1 m.mode.code ++ putNum 1 m.merge ++ putNum 1 m.behaviour.code ++
  putNum 1 live ++ putOpt 2 m.tag ++ putNum 1 (count .pending) ++ putNum 1 (count .matched) ++
  putNum 1 (count .missed) ++ putOpt 3 (m.firstPending.map (·.position)) ++ putOptTick m.windowClose ++
  m.candidates.flatMap (fun k => putOptTick (k.map (·.time)) ++ putOptTick (k.map (·.expiry)))

def putAnchor (a : Anchor) : List Byte :=
  putNum 3 a.position ++ putNum 1 a.status.code ++ putOptTick a.time ++ putOpt 1 a.channel

/-- R105: part 3 of TRACK QUERY: at most six anchors of 9 bytes fit with their presence bits. -/
def putAnchors (anchors : List Anchor) (start : Nat) : List Byte :=
  let shown := (anchors.drop start).take 6
  putPresence (shown.flatMap (fun a => [a.time.isSome, a.channel.isSome])) ++
  putNum 1 start ++ putNum 1 anchors.length ++ shown.flatMap putAnchor

/-! ### Tracking (R112, R128) -/

def putTrackParams (t : TrackParams) : List Byte :=
  putNum 1 t.phaseGain ++ putNum 1 t.tempoGain ++ putNum 1 t.stepLimit ++ putNum 1 t.missLimit ++
  putNum 1 t.window ++ putNum 2 t.breath ++ putNum 1 t.holdFactor

/-- R128: part 0 of TRACK QUERY. -/
def putTracker (tr : Tracker) (clock : Tick) : List Byte :=
  putPresence [tr.refTime.isSome, tr.bounds.isSome, tr.tag.isSome, tr.lastAnchor.isSome,
    (tr.posAt clock).isSome] ++
  putNum 1 tr.state.code ++ putOptTick tr.refTime ++ putNum 3 tr.refPos ++ putNum 3 tr.period ++
  putOpt 3 (tr.bounds.map (·.least)) ++ putOpt 3 (tr.bounds.map (·.greatest)) ++
  putOpt 3 (tr.bounds.map (·.starting)) ++ putOpt 2 tr.tag ++ putMark tr.inPlay ++ putMark tr.matched ++
  putOpt 3 (tr.lastAnchor.map (·.position)) ++ putOptTick (tr.lastAnchor.map (·.time)) ++
  putNum 1 tr.misses ++ putNum 2 tr.windowTicks ++ putOpt 3 (tr.posAt clock) ++ putTick clock

/-- R128: T of the resume position, while HOLDING. -/
def Tracker.resumeTime (tr : Tracker) : Option Tick :=
  if tr.state = .holding then tr.hold.map (fun h => tr.timeOf h.resume) else none

def putFermata (f : Option Fermata) : List Byte :=
  putOpt 3 (f.map (·.position)) ++ putOpt 2 (f.map (·.span)) ++ putOpt 3 (f.map (·.resume))

def putHold (h : Option Hold) : List Byte :=
  putOpt 1 (h.map (·.entry.code)) ++ putOpt 3 (h.map (·.position)) ++ putOpt 3 (h.map (·.resume)) ++
  putOpt 2 (h.map (·.span)) ++ putOptTick (h.map (·.entryTime)) ++ putOptTick (h.map (·.minEnd)) ++
  putOptTick (h.map (·.maxEnd)) ++ putMark (h.any (·.cueHeld))

/-- R128: part 1 of TRACK QUERY. -/
def putHoldPart (tr : Tracker) (clock : Tick) : List Byte :=
  putPresence [tr.fermata.isSome, tr.hold.isSome, tr.resumeTime.isSome] ++
  putFermata tr.fermata ++ putHold tr.hold ++ putOptTick tr.resumeTime ++ putTrackParams tr.params ++
  putTick clock

/-! ### Keying (R208) -/

/-- Byte 3 of the record readout. -/
def keyStateByte (r : KeyRecord) : Nat :=
  r.state.code + 4 * r.origin.code + 16 * HoldKind.code r.holdKind + 64 * r.priority

/-- A keying record in 27 bytes (R208). The bytes of what is absent read 0: the model's choice (log 50). -/
def putKeyRecord (slot : Nat) (r : KeyRecord) : List Byte :=
  putNum 1 slot ++ putNum 1 r.division ++ putNum 1 r.key ++ putNum 1 (keyStateByte r) ++
  putNum 1 r.voices.toNat ++
  putPresence [r.span.isSome, r.offTime.isSome, r.deadline.isSome, r.successor.isSome] ++
  putOpt 1 r.successor ++ putOpt 3 (r.span.map (·.start)) ++ putOpt 3 (r.span.map (·.stop)) ++
  putOpt 2 (r.span.map (·.tag)) ++ putTick r.onTime ++ putOptTick r.offTime ++ putOptTick r.deadline

/-- The marker record that ends a walk (R208). -/
def keyMarker : List Byte := 0#8 :: 255#8 :: List.replicate 25 0#8

/-- R173: the record in a slot as it reads at the moment of a KEY LOOKUP reply: a SCHEDULED record's
times are derived from the beat reference then in force. -/
def readoutRecord (e : Env) (p : Play) (i : Nat) (r : KeyRecord) : KeyRecord :=
  if r.state = .scheduled then (((retimedSlots e p.tracker p.slots)[i]?).join).getD r else r

/-- R173: the reply of KEY LOOKUP. -/
def putKeyLookup (e : Env) (p : Play) (i : Nat) (r : KeyRecord) : List Byte :=
  putKeyRecord i (readoutRecord e p i r) ++
  putNum 1 (p.records.countP (fun x => x.2.onKey r.division r.key)) ++ putTick e.clock

/-- R173, R208: the reply of KEY LIST: at most two records, and the marker when the walk passes slot 127
within the reply (log 32). -/
def putKeyList (p : Play) (start : Nat) : List Byte :=
  let met := p.records.filter (fun x => decide (start ≤ x.1))
  putNum 1 start ++ putNum 1 p.slotsInUse ++ (met.take 2).flatMap (fun x => putKeyRecord x.1 x.2) ++
  (if met.length ≤ 1 then keyMarker else [])

/-! ### Stops and swell (R181, R182, R188, R190) -/

def applyPresence (a : Apply) : List Bool :=
  [a.registration.isSome, a.origin.isSome, a.startTick.isSome, a.endTick.isSome]

def putApplyFields (a : Apply) : List Byte :=
  putNum 1 a.state.code ++ putOpt 1 a.registration ++ putOpt 1 (a.origin.map ApplyOrigin.code) ++
  putOptTick a.startTick ++ putOptTick a.endTick ++ putNum 1 a.taken ++ putNum 2 a.pulses ++ putNum 1 a.faults ++
  putMark a.readerWaiting

/-- R182: the reply of STOPS APPLY. -/
def putApply (a : Apply) : List Byte := putPresence (applyPresence a) ++ putApplyFields a

def stopPresence (r : StopRecord) : List Bool :=
  [r.sense.isSome, r.cause.isSome, r.desired.isSome, r.pulseEnd.isSome, r.timeout.isSome]

def putStopRecord (r : StopRecord) : List Byte :=
  putNum 1 ((r.sense.map Bool.toNat).getD 0) ++ putNum 1 (drawnCode r.drawn) ++
  putOpt 1 (r.cause.map UnknownCause.code) ++ putNum 1 r.action.code ++ putOpt 1 (r.desired.map desiredCode) ++
  putNum 1 (Magnet.code r.drive) ++ putOptTick r.pulseEnd ++ putOptTick r.timeout ++ putMark r.handSet

def putSwell (o : SwellOutput) : List Byte := putNum 2 o.duty ++ putOpt 2 o.target ++ putNum 1 o.slew

/-- R188: the reply of STOPS QUERY: one stop of 15 bytes fits with the rest. A starting index at or beyond the
stop count is answered with no stop entry: the model's choice (log 46). -/
def putStopsQuery (a : Apply) (stops : List StopRecord) (outputs : List SwellOutput) (start : Nat)
    (clock : Tick) : List Byte :=
  let shown := (stops.drop start).take 1
  putPresence (applyPresence a ++ shown.flatMap stopPresence ++ outputs.map (·.target.isSome)) ++
  putApplyFields a ++ putNum 1 start ++ putNum 1 stops.length ++ shown.flatMap putStopRecord ++
  outputs.flatMap putSwell ++ putTick clock

/-- R190: the reply of SWELL PUT. -/
def putSwellReply (i : Nat) (o : SwellOutput) : List Byte := putNum 1 i ++ putNum 1 o.slew ++ putNum 2 o.duty

/-! ### Reporting (R202 to R204, R209) -/

/-- R204: the reply of COUNTERS READ: at most 30 counters. -/
def putCounters (counters : List Nat) (start : Nat) : List Byte :=
  putNum 1 start ++ putNum 1 Config.counters ++ ((counters.drop start).take 30).flatMap (putNum 2)

/-- R209, byte 3: the verdicts. -/
def verdictByte (s : State) : Nat :=
  ((List.range Config.divisionPlaces).map (fun d =>
    (match s.organ.division d with
     | none => 3
     | some _ => Verdict.code (s.chain.verdict d)) * 4 ^ d)).sum

/-- R209, byte 6: the section kind and the verse number. -/
def sectionByte : Option Section → Nat
  | none => 0
  | some .giveOut => 64
  | some (.verse n) => 128 + n
  | some .amen => 192

/-- R209, byte 22: presence and live states. -/
def presenceState (l : Listening) : Nat :=
  setOfMarks ([(l.inputs[0]?).any (·.present), (l.inputs[1]?).any (·.present), false, false] ++
    (List.range Config.channels).map l.live)

/-- R209, byte 16: a last cue that is present. -/
def cueByte (c : LastCue) : Nat := buttonNumber c.button + 128 * (!c.taken).toNat

/-- A one-byte field that reads 255 when it is absent (R209). -/
def putOr255 (o : Option Nat) : List Byte := putNum 1 (o.getD 255)

/-- R209: the body of the STATUS reply. An absent position and an absent cue's tick, fields of 3 and 4 bytes, read 0:
the model's choice (log 50). -/
def putStatus (s : State) : List Byte :=
  putNum 1 s.link.cause.code ++
  putNum 1 (s.chain.phase.code + 16 * FaultCause.code s.chain.cause) ++
  putOr255 s.chain.length ++ putNum 1 (verdictByte s) ++
  putNum 1 s.play.reader.flow.code ++ putOr255 s.play.cursor ++ putNum 1 (sectionByte s.play.reader.section) ++
  putNum 1 (EndCause.code s.play.reader.cause) ++
  putNum 1 s.play.tracker.state.code ++ putNum 3 s.play.tracker.period ++
  putOpt 3 (s.play.tracker.posAt s.clock) ++
  putPresence [(s.play.tracker.posAt s.clock).isSome, s.play.reader.lastCue.isSome] ++
  putOr255 (s.play.reader.lastCue.map cueByte) ++ putOptTick (s.play.reader.lastCue.map (·.tick)) ++
  putNum 1 s.play.slotsInUse ++ putNum 1 (presenceState s.listening) ++
  putNum 1 s.play.apply.state.code ++ putNum 1 s.play.apply.faults ++
  putLatches s.play.latches ++ putTick s.clock

end Sys2Proof.Machine
end

