-- ==== Sys2Proof/Machine/Resets.lean ====
section
/-! DEFINITION. POWER_RESET, PIN_RESET and RESET_END, and the REQUEST reset that ANSWER_SENT makes
(R26, R49, R60, R67, R86, R106, R130, R153, R177, R189, R193, R205). -/

namespace Sys2Proof.Machine

/-- R49: READY entries stay; an open load is freed, and the last-load result says RESET. -/
def Library.afterReset (l : Library) : Library :=
  { l with
    entries := l.entries.map (fun o => match o with
      | some en => if en.state = .ready then some en else none
      | none => none)
    lastLoad := match l.openLoad.bind (fun n => l.entry n) with
      | some en => some { tuneId := en.tuneId, outcome := .reset, event := none }
      | none => l.lastLoad }

/-- R193: an output keeps its duty and slew; its target becomes absent, and its line is low until a
period begins. -/
def SwellOutput.afterReset (o : SwellOutput) : SwellOutput := { o with target := none, driven := 0 }

/-- What a PIN or REQUEST reset leaves: the host's prepared work and the parameters (00, Resets). -/
def State.preparedReset (s : State) (cause : ResetCause) : State :=
  { s with
    clock := 0
    chain := .afterReset s.chain.latched
    library := s.library.afterReset
    listening := .afterReset (s.listening.channels.map (·.params))
    swell := .afterReset (s.swell.outputs.map SwellOutput.afterReset)
    link := .afterReset s.link.mask cause s.link.fast
    play := .afterReset s.play.cursor s.play.matcher.mode s.play.matcher.merge s.play.tracker.params
      s.play.reader.horizon s.organ.divisions }

/-- R205: at the end of a reset RATE is sampled, latch RESET is set, and the service clock is 0. -/
def State.endReset (s : State) (rateHigh : Bool) : State :=
  { s with
    clock := 0
    inReset := false
    link := { s.link with fast := rateHigh }
    play := s.play.latch .reset }

/-- POWER_RESET (R205). -/
def execPowerReset (s : State) : Host.Outcome State Fault Refusal :=
  .next { State.powerUp s.chain.latched with pending := s.pending }

/-- PIN_RESET (R205). RESETn is low until RESET_END. -/
def execPinReset (s : State) : Host.Outcome State Fault Refusal :=
  .next { s.preparedReset .pin with inReset := true }

/-- RESET_END (R26, R194). -/
def execResetEnd (rateHigh : Bool) (s : State) : Host.Outcome State Fault Refusal :=
  .next (if s.inReset then s.endReset rateHigh else s)

end Sys2Proof.Machine
end

