-- ==== Sys2Proof/Machine/Reporting.lean ====
section
/-! DEFINITION. STATUS, RESET, the EVENTS requests and the COUNTERS requests (R200 to R205). -/

namespace Sys2Proof.Machine

/-- STATUS (R200). -/
def carryStatus (s : State) : State :=
  s.reply 0x01 (putStatus s)

/-- RESET (R205): the reset follows the reply. -/
def carryReset (s : State) : State :=
  let s := s.reply 0x02 []
  { s with link := { s.link with resetPending := true } }

/-- EVENTS_READ (R202). -/
def carryEventsRead (s : State) : State :=
  s.reply 0x40 (putLatches s.play.latches ++ putLatches s.link.mask ++ putMark s.attn)

/-- A request that names latches is refused when a bit from 19 to 23 is set. -/
def latchTest (set : BitVec 24) : Option (Reason × Nat) :=
  if namesOnlyLatches set then none else some (.badArgument, 0)

/-- EVENTS_ACK (R202): every named latch becomes clear. -/
def carryEventsAck (set : BitVec 24) (s : State) : State :=
  s.tested 0x41 (latchTest set) (fun s =>
    let after := s.play.latches &&& ~~~ latchesNamed set
    { s with play := { s.play with latches := after } }.reply 0x41
      (putLatches s.play.latches ++ putLatches after))

/-- EVENTS_MASK (R203): the set becomes the mask. -/
def carryEventsMask (set : BitVec 24) (s : State) : State :=
  s.tested 0x42 (latchTest set) (fun s =>
    { s with link := { s.link with mask := latchesNamed set } }.reply 0x42 (putLatches (latchesNamed set)))

/-- EVENTS_FORCE (R203): every named latch is set. -/
def carryEventsForce (set : BitVec 24) (s : State) : State :=
  s.tested 0x43 (latchTest set) (fun s =>
    let after := s.play.latches ||| latchesNamed set
    { s with play := { s.play with latches := after } }.reply 0x43 (putLatches after))

/-- COUNTERS_READ (R204). -/
def carryCountersRead (start : Option Nat) (s : State) : State :=
  if 38 < start.getD 0 then s.reject 0x48 .badArgument
  else s.reply 0x48 (putCounters s.play.counters (start.getD 0))

/-- COUNTERS_CLEAR (R204). -/
def carryCountersClear (s : State) : State :=
  { s with play := { s.play with counters := s.play.counters.map (fun _ => 0) } }.reply 0x49 []

end Sys2Proof.Machine
end

