-- ==== Sys2Proof/Machine/Describing.lean ====
section
/-! DEFINITION. DIVISION_PUT, DIVISION_CLEAR, DIVISION_QUERY, ORGAN_PUT and SURVEY (R7 to R11, R16). -/

namespace Sys2Proof.Machine

/-- A place receives a record or becomes not described; the sense chain's length is recomputed (R5) and
the place's stop records are formed anew or removed (R178). -/
def State.describe (s : State) (d : Nat) (v : Option Division) : State :=
  let divisions := s.organ.divisions.set d v
  { s with
    organ := { s.organ with divisions := divisions, senseBoards := senseBoardsFor divisions }
    play := { s.play with stops := s.play.stops.set d (StopRecord.forPlace v) } }

/-- The chain is RUNNING or FAULT, so that a closing sequence ends it (R15). -/
def Chain.closes (c : Chain) : Bool := decide (c.phase = .running) || decide (c.phase = .fault)

/-- R15: a closing sequence starts. No scan starts any more, and the answer is owed until the clearing
shift completes; the link is busy with the request. -/
def State.startClosing (s : State) (a : Answer) (surveyFollows : Bool) : State :=
  { s with
    chain := { s.chain with shift := .ofClosing surveyFollows, nextScan := none }
    link := { s.link with busy := true, owed := some a } }

/-- A taken request is answered, after a closing sequence when the chain is RUNNING or FAULT (R8, R9). -/
def State.replyClosing (s : State) (code : Nat) (body : List Byte) : State :=
  if s.chain.closes then s.startClosing (replyAnswer code body) false else s.reply code body

/-- DIVISION_PUT (R7, R8). -/
def carryDivisionPut (division : Nat) (rec : DivisionArg) (s : State) : State :=
  s.tested 0x08 (divisionPutTest s division rec) (fun s =>
    (s.describe division (some (storedDivision rec))).replyClosing 0x08 (putDivision (storedDivision rec)))

/-- R9: the division's verdict becomes absent. -/
def State.clearVerdict (s : State) (d : Nat) : State :=
  { s with chain := { s.chain with verdicts := s.chain.verdicts.set d none } }

/-- DIVISION_CLEAR (R9). -/
def carryDivisionClear (division : Nat) (s : State) : State :=
  s.tested 0x09 (divisionClearTest s division) (fun s =>
    ((s.describe division none).clearVerdict division).replyClosing 0x09 (putNum 1 division))

/-- DIVISION_QUERY (R10). -/
def carryDivisionQuery (division : Nat) (s : State) : State :=
  if 3 < division then s.reject 0x0A .badArgument
  else match s.organ.division division with
    | none => s.reject 0x0A .notFound
    | some v => s.reply 0x0A (putDivisionQuery v (s.chain.verdict division))

/-- ORGAN_PUT (R11). -/
def carryOrganPut (values : OrganArg) (s : State) : State :=
  if s.play.reader.flow ≠ .idle then s.reject 0x0B .inService
  else { s with organ := { s.organ with settings := storedSettings values } }.reply 0x0B
    (putSettings (storedSettings values))

/-- The chain enters SURVEYING (R17). -/
def Chain.beginSurvey (c : Chain) : Chain := { c with phase := .surveying }

/-- R16, R26: a taken SURVEY. In RUNNING or FAULT a closing sequence runs first, during a reset's
clearing shift the survey starts when that completes, and else it starts at once (log 11). -/
def State.takeSurvey (s : State) : State :=
  if s.chain.closes then s.startClosing (replyAnswer 0x0C []) true
  else if s.chain.shift = .none then { s with chain := s.chain.beginSurvey }.reply 0x0C []
  else
    { s with
      chain := { s.chain with shift := .ofReset true }
      link := { s.link with busy := true, owed := some (replyAnswer 0x0C []) } }

/-- SURVEY (R16). -/
def carrySurvey (s : State) : State :=
  s.tested 0x0C (surveyTest s) State.takeSurvey

end Sys2Proof.Machine
end

