-- ==== Sys2Proof/Machine/ChestChain.lean ====
section
/-! DEFINITION. The events of the chest chain: CLOSING_SEQUENCE_COMPLETE, RESET_CLEARING_SHIFT_COMPLETE,
SURVEY_RETURN, SURVEY_NO_RETURN, SCAN_START and SCAN_COMPLETE (R13 to R26). -/

namespace Sys2Proof.Machine

/-! ### Clearing shifts (R14, R15, R26) -/

/-- The answer owed to a request becomes the answer in progress. -/
def State.payAnswer (s : State) : State :=
  match s.link.owed with
  | none => s
  | some a => { s with link := { s.link with answer := some a, owed := none } }

/-- R15: the chain after a closing sequence. -/
def Chain.closed (c : Chain) (surveyFollows : Bool) : Chain :=
  { c with
    phase := if surveyFollows then .surveying else .unsurveyed
    length := none, cause := none, verdicts := c.verdicts.map (fun _ => none), previous := 0, misses := 0,
    clean := 0, sense := none, scan := none, nextScan := none, shift := .none, latched := 0 }

/-- R15: the effects of a closing sequence's end on the tables. -/
def closeTables (e : Env) (surveyFollows : Bool) (p : Play) : Play :=
  let p := closeStops e (retireAll p)
  if surveyFollows then p else p.latch .chain

/-- CLOSING_SEQUENCE_COMPLETE (R15): its clearing shift completes, after the scan in progress. -/
def State.closingDone (s : State) : State :=
  match s.chain.shift, s.chain.scan with
  | .ofClosing survey, none =>
    { s with chain := s.chain.closed survey, play := closeTables s.toEnv survey s.play }.payAnswer
  | _, _ => s

/-- Some division is described (R16). -/
def Organ.anyDescribed (o : Organ) : Bool := o.divisions.any (·.isSome)

/-- RESET_CLEARING_SHIFT_COMPLETE (R26). -/
def State.resetShiftDone (s : State) : State :=
  match s.chain.shift with
  | .ofReset taken =>
    let c := { s.chain with shift := .none, latched := 0 }
    { s with chain := if taken || s.organ.anyDescribed then c.beginSurvey else c }.payAnswer
  | _ => s

/-! ### The survey (R17) -/

/-- R17.4: the verdict of a place on a chain of a number of outputs. -/
def verdictFor (outputs : Nat) (v : Option Division) : Option Verdict :=
  v.map (fun v => if v.outputs.all (fun o => decide (o < outputs)) then .present else .absent)

/-- R17.4: a survey that saw a return at count c. -/
def Chain.surveyed (c : Chain) (o : Organ) (count : Nat) (now : Tick) : Chain :=
  { c with
    phase := .running
    length := some (count / 16)
    cause := none
    verdicts := o.divisions.map (verdictFor (16 * (count / 16)))
    previous := 0, misses := 0, clean := 0, scan := none, nextScan := some now, latched := 0 }

/-- R17.5: a survey with no return. -/
def Chain.notFound (c : Chain) (o : Organ) (now : Tick) : Chain :=
  { c with
    phase := .fault
    length := none
    cause := some .noReturn
    verdicts := o.divisions.map (verdictFor 0)
    previous := 0, misses := 0, clean := 0, scan := none, nextScan := some now, latched := 0 }

/-- Latch CHAIN is raised (R13). -/
def State.chainLatch (s : State) : State := { s with play := s.play.latch .chain }

/-! ### Scans (R19 to R21) -/

/-- The bits of an image that the chain has outputs for: 16L, or 1,024 without a length (R19, R25). -/
def Chain.mask (c : Chain) : ChestImage := BitVec.ofNat 1024 (2 ^ (16 * c.length.getD 64) - 1)

/-- The image with one output on. -/
def outputBit (o : Nat) : ChestImage := BitVec.twoPow 1024 o

/-- The outputs of the keys of the current records (R19). -/
def Env.keyOutputs (e : Env) (p : Play) : List Nat :=
  (p.records.filter (fun x => x.2.current)).filterMap (fun x =>
    (e.organ.division x.2.division).map (fun v => v.outputOf x.2.key))

/-- The output of the magnet a stop is driven by (R19). -/
def drivenOutput (w : StopWiring) : Option Magnet → List Nat
  | none => []
  | some .on => [w.onMagnet]
  | some .off => [w.offMagnet]

/-- The outputs of the magnets being driven (R19). -/
def Env.magnetOutputs (e : Env) (p : Play) : List Nat :=
  (mapFrom (fun d l => (mapFrom (fun i r =>
    match (e.organ.division d).bind (fun v => v.stops[i]?) with
    | some w => drivenOutput w r.drive
    | none => []) 0 l).flatten) 0 p.stops).flatten

/-- R19: the image of a scan that starts now. -/
def Env.image (e : Env) (p : Play) : ChestImage :=
  if e.running then
    ((e.keyOutputs p ++ e.magnetOutputs p).foldl (fun acc o => acc ||| outputBit o) 0) &&& e.chain.mask
  else 0

/-- R19: a scan start has come: the chain is RUNNING or FAULT, no scan is in progress, and no clearing
shift runs. -/
def Env.scanDue (e : Env) : Bool :=
  e.chain.closes && e.chain.scan.isNone && decide (e.chain.shift = .none) && dueAt e.clock e.chain.nextScan

/-- R19: a scan starts and its image is fixed; the next starts 2 ticks after it. -/
def State.startScan (s : State) : State :=
  { s with chain := { s.chain with
      scan := some (s.toEnv.image s.play)
      nextScan := s.chain.nextScan.map (· + ticks 2) } }

/-! ### Integrity (R22 to R25) -/

/-- R23: what an integrity fault does to the blocks. -/
def faultTables (e : Env) (p : Play) : Play :=
  let p := retireAll p
  let p := if p.reader.flow = .idle then p else itemEnd .fault p
  (abandonApply e p).latch .chain

/-- R23: the chain enters FAULT with cause INTEGRITY. -/
def State.integrityFault (s : State) : State :=
  { s with
    chain := { s.chain with phase := .fault, cause := some .integrity, clean := 0, misses := 0 }
    play := faultTables s.toEnv s.play }

/-- The bits that came back from the outputs the chain has. -/
def Chain.returned (c : Chain) (ret : ChestImage) : ChestImage := ret &&& c.mask

/-- R22: a RUNNING scan's bits agree with the previous image. -/
def Chain.agrees (c : Chain) (ret : ChestImage) : Bool := decide (c.returned ret = c.previous)

/-- R22: this RUNNING scan is the third miss in a row. -/
def Chain.thirdMiss (c : Chain) (ret : ChestImage) : Bool :=
  decide (c.phase = .running) && !c.agrees ret && decide (2 ≤ c.misses)

/-- R22: the comparison of a RUNNING scan. -/
def State.compareRunning (s : State) (ret : ChestImage) : State :=
  if s.chain.agrees ret then { s with chain := { s.chain with misses := 0 } }
  else
    let t := { s with play := s.play.count .integrityMiss }
    if 2 ≤ s.chain.misses then t.integrityFault
    else { t with chain := { t.chain with misses := t.chain.misses + 1 } }

/-- R24: the chain recovers. -/
def State.recover (s : State) : State :=
  { s with chain := { s.chain with phase := .running, cause := none, misses := 0, clean := 0 } }.chainLatch

/-- R24: the comparison of a scan in FAULT with cause INTEGRITY. -/
def State.compareFault (s : State) (ret : ChestImage) : State :=
  if s.chain.returned ret ≠ 0 then
    { s with chain := { s.chain with clean := 0 }, play := s.play.count .integrityMiss }
  else if s.chain.previous = 0 then
    if 49 ≤ s.chain.clean then s.recover
    else { s with chain := { s.chain with clean := s.chain.clean + 1 } }
  else s

/-- R22, R24, R25: the comparison of a scan's return. -/
def State.compare (s : State) (ret : ChestImage) : State :=
  match s.chain.phase, s.chain.cause with
  | .running, _ => s.compareRunning ret
  | .fault, some .integrity => s.compareFault ret
  | _, _ => s

/-- R21: the bits of the sense boards that exist. -/
def Organ.senseMask (o : Organ) : SenseImage := BitVec.ofNat 64 (2 ^ (16 * o.senseBoards) - 1)

/-- R21: the sense image is delivered, and every stop record takes its bit (R179). -/
def State.deliverSense (s : State) (bits : SenseImage) : State :=
  let read := bits &&& s.organ.senseMask
  { s with chain := { s.chain with sense := some read } }.act (fun e p => senseRead e read p)

/-- R20: the latch pulse: the boards take the image, which becomes the previous image. -/
def State.latchImage (s : State) (image : ChestImage) : State :=
  { s with chain := { s.chain with scan := none, previous := image, latched := image } }

/-- SCAN_COMPLETE (R20 to R24). The return is compared and the sense image delivered; of a third miss
and the delivery either may come first (log 19). -/
def State.completeScan (s : State) (image ret : ChestImage) (bits : SenseImage) : State :=
  if s.chain.thirdMiss ret then
    if Config.senseReadFirst s.clock then ((s.deliverSense bits).compare ret).latchImage image
    else ((s.compare ret).deliverSense bits).latchImage image
  else ((s.compare ret).deliverSense bits).latchImage image

/-! ### The commands -/

/-- CLOSING_SEQUENCE_COMPLETE (R15). -/
def execClosingSequenceComplete (s : State) : Host.Outcome State Fault Refusal :=
  .next (s.event State.closingDone)

/-- RESET_CLEARING_SHIFT_COMPLETE (R26). -/
def execResetClearingShiftComplete (s : State) : Host.Outcome State Fault Refusal :=
  .next (s.event State.resetShiftDone)

/-- SURVEY_RETURN (R17). A count above 1,024 is never reached. -/
def execSurveyReturn (count : Nat) (s : State) : Host.Outcome State Fault Refusal :=
  .next (s.event (fun s =>
    if s.chain.phase = .surveying ∧ count ≤ 1024 then
      { s with chain := s.chain.surveyed s.organ count s.clock }.chainLatch
    else s))

/-- SURVEY_NO_RETURN (R17). -/
def execSurveyNoReturn (s : State) : Host.Outcome State Fault Refusal :=
  .next (s.event (fun s =>
    if s.chain.phase = .surveying then { s with chain := s.chain.notFound s.organ s.clock }.chainLatch else s))

/-- SCAN_START (R19). -/
def execScanStart (s : State) : Host.Outcome State Fault Refusal :=
  .next (s.event (fun s => if s.toEnv.scanDue then s.startScan else s))

/-- SCAN_COMPLETE (R22). -/
def execScanComplete (returned : ChestImage) (sense : SenseImage) (s : State) :
    Host.Outcome State Fault Refusal :=
  .next (s.event (fun s => match s.chain.scan with
    | some image => s.completeScan image returned sense
    | none => s))

end Sys2Proof.Machine
end

