-- ==== Sys2Proof/Machine/Loading.lean ====
section
/-! DEFINITION. TUNE_OPEN, TUNE_DATA, VALIDATION_SUCCESS, VALIDATION_FAILURE, TUNE_ABORT, TUNE_RETIRE,
TUNE_QUERY and LOAD_RESULT (R33 to R46). -/

namespace Sys2Proof.Machine

def State.setLibrary (s : State) (l : Library) : State := { s with library := l }

/-- R34: the entry that a taken TUNE OPEN makes. -/
def openedEntry (l : Library) (tuneId length : Nat) : Entry :=
  { state := .loading, tuneId := tuneId, length := length, blocks := l.freeBlocks.take (blocksFor length),
    cursor := 0, derived := none, lineEndSupplied := false }

/-- R34: the lowest FREE entry takes the load. -/
def Library.openTune (l : Library) (n tuneId length : Nat) : Library :=
  l.setEntry n (some (openedEntry l tuneId length))

/-- TUNE_OPEN (R33, R34). -/
def carryTuneOpen (tuneId length : Nat) (s : State) : State :=
  s.tested 0x10 (tuneOpenTest s.library tuneId length) (fun s =>
    let n := s.library.freeEntry.getD 0
    let l := s.library.openTune n tuneId length
    (s.setLibrary l).reply 0x10
      (putNum 1 n ++ putNum 1 (blocksFor length) ++
       putNum 1 ((openedEntry s.library tuneId length).blocks.headD 0) ++ putNum 2 l.freeBlocks.length))

/-- The LOADING entry, with its number (R35). -/
def Library.loading (l : Library) : Option (Nat × Entry) :=
  (l.find (fun en => decide (en.state = .loading))).bind (fun n => (l.entry n).map (fun en => (n, en)))

/-- R35: an entry after bytes are stored at its cursor. -/
def Entry.advance (en : Entry) (count : Nat) : Entry :=
  { en with
    cursor := en.cursor + count
    state := if en.cursor + count < en.length then .loading else .validating }

/-- R35: the library after a taken TUNE DATA. -/
def Library.store (l : Library) (n : Nat) (en : Entry) (bytes : List Byte) : Library :=
  { l with mem := writeImage l.mem en en.cursor bytes }.setEntry n (some (en.advance bytes.length))

/-- TUNE_DATA (R35). -/
def carryTuneData (bytes : List Byte) (s : State) : State :=
  match s.library.loading with
  | none => s.reject 0x11 .notFound
  | some (n, en) =>
    if en.length - en.cursor < bytes.length then s.reject 0x11 .badArgument (en.length - en.cursor)
    else
      let after := en.advance bytes.length
      (s.setLibrary (s.library.store n en bytes)).reply 0x11
        (putNum 2 after.cursor ++ putNum 2 (after.length - after.cursor) ++ putNum 1 after.state.code)

/-- The entry whose walk runs, with its number. -/
def Library.validating (l : Library) : Option (Nat × Entry) :=
  (l.find (fun en => decide (en.state = .validating))).bind (fun n => (l.entry n).map (fun en => (n, en)))

/-- R40: the stored image with the LINE END that validation supplied. -/
def supplied (mem : Memory) (en : Entry) : Option Nat → Memory
  | none => mem
  | some o => setLineEnd mem en o

/-- R41: an entry that becomes READY. -/
def Entry.readied (en : Entry) (d : Derived) (lineEnd : Bool) : Entry :=
  { en with state := .ready, derived := some d, lineEndSupplied := lineEnd }

/-- R41: a walk that passes every check. -/
def Library.succeed (l : Library) (n : Nat) (en : Entry) (d : Derived) (lineEnd : Option Nat) : Library :=
  { l with
    mem := supplied l.mem en lineEnd
    lastLoad := some { tuneId := en.tuneId, outcome := .ok, event := none } }.setEntry n
      (some (en.readied d lineEnd.isSome))

/-- VALIDATION_SUCCESS (R41). -/
def execValidationSuccess (s : State) : Host.Outcome State Fault Refusal :=
  .next (s.event (fun s => match s.library.validating with
    | none => s
    | some (n, en) => match validate s.library.mem en with
      | .ok (d, lineEnd) =>
        { s.setLibrary (s.library.succeed n en d lineEnd) with play := s.play.latch .loadDone }
      | .error _ => s))

/-- An entry becomes FREE, and the last-load result says how its load ended (R42, R44). -/
def Library.endLoad (l : Library) (n tuneId : Nat) (outcome : LoadOutcome) (event : Option Nat) : Library :=
  { l with lastLoad := some { tuneId := tuneId, outcome := outcome, event := event } }.setEntry n none

/-- VALIDATION_FAILURE (R42). -/
def execValidationFailure (s : State) : Host.Outcome State Fault Refusal :=
  .next (s.event (fun s => match s.library.validating with
    | none => s
    | some (n, en) => match validate s.library.mem en with
      | .ok _ => s
      | .error f =>
        { s.setLibrary (s.library.endLoad n en.tuneId f.outcome f.event) with
          play := s.play.latch .loadFailed }))

/-- R44, R45: what a reply about a freed entry carries. -/
def putFreed (tuneId : Nat) (l : Library) : List Byte := putNum 2 tuneId ++ putNum 2 l.freeBlocks.length

/-- TUNE_ABORT (R44). -/
def carryTuneAbort (tuneId : Nat) (s : State) : State :=
  match s.library.find (fun en => decide (en.state ≠ .ready) && decide (en.tuneId = tuneId)) with
  | none => s.reject 0x12 .notFound
  | some n =>
    let l := s.library.endLoad n tuneId .aborted none
    (s.setLibrary l).reply 0x12 (putFreed tuneId l)

/-- TUNE_RETIRE (R45). -/
def carryTuneRetire (tuneId : Nat) (s : State) : State :=
  match s.library.ready tuneId with
  | none => s.reject 0x13 .notFound
  | some n =>
    if s.play.inUse = some n then s.reject 0x13 .inUse
    else
      let l := s.library.setEntry n none
      (s.setLibrary l).reply 0x13 (putFreed tuneId l)

/-- TUNE_QUERY (R46). -/
def carryTuneQuery (which : TuneRef) (s : State) : State :=
  match which with
  | .byId t =>
    match s.library.find (fun en => decide (en.tuneId = t)) with
    | none => s.reject 0x14 .notFound
    | some n => s.reply 0x14 (putTuneQuery s.library s.play.inUse n)
  | .byEntry n =>
    if 47 < n then s.reject 0x14 .badArgument else s.reply 0x14 (putTuneQuery s.library s.play.inUse n)
  | .badForm _ _ => s.reject 0x14 .badArgument

/-- LOAD_RESULT (R43). -/
def carryLoadResult (s : State) : State :=
  s.reply 0x15 (putLoadResult s.library.lastLoad)

end Sys2Proof.Machine
end

