-- ==== Sys2Proof/Machine/Service.lean ====
section
/-! DEFINITION. ITEM_PUT, ITEM_REPLACE, ITEM_REMOVE, ITEM_QUERY, REG_PUT and REG_QUERY (R54 to R66). -/

namespace Sys2Proof.Machine

/-- The service list and its cursor become these. -/
def State.setItems (s : State) (items : List Item) (cursor : Option Nat) : State :=
  { s with items := items, play := { s.play with cursor := cursor } }

/-- ITEM_PUT (R54, R55). -/
def carryItemPut (index : Nat) (item : ItemArg) (s : State) : State :=
  s.tested 0x18 (itemPutTest s index item) (fun s =>
    let items := s.items.insertIdx index (storedItem item)
    let cursor := cursorAfterInsert index s.play.cursor
    (s.setItems items cursor).reply 0x18 (putItemReply index (storedItem item) items.length cursor))

/-- ITEM_REPLACE (R56). -/
def carryItemReplace (index : Nat) (item : ItemArg) (s : State) : State :=
  s.tested 0x19 (itemReplaceTest s index item) (fun s =>
    (s.setItems (s.items.set index (storedItem item)) s.play.cursor).reply 0x19
      (putItemReply index (storedItem item) s.items.length s.play.cursor))

/-- ITEM_REMOVE (R57). -/
def carryItemRemove (index : Nat) (s : State) : State :=
  s.tested 0x1A (itemRemoveTest s index) (fun s =>
    let items := s.items.eraseIdx index
    let cursor := cursorAfterRemove index items.length s.play.cursor
    (s.setItems items cursor).reply 0x1A (putRemoveReply index items.length cursor))

/-- ITEM_QUERY (R58): refused, its detail carries the list length. -/
def carryItemQuery (index : Nat) (s : State) : State :=
  match s.items[index]? with
  | none => s.reject 0x1B .notFound s.items.length
  | some it => s.reply 0x1B (putItemQuery index it s.items.length s.play.cursor (s.playingIndex index)
      (s.library.ready it.tuneId).isSome)

/-- REG_PUT (R62, R63). -/
def carryRegPut (index : Nat) (reg : Registration) (s : State) : State :=
  s.tested 0x1C (regPutTest s index reg) (fun s =>
    { s with regs := s.regs.set index (storedRegistration reg) }.reply 0x1C
      (putNum 1 index ++ putRegistration (storedRegistration reg)))

/-- REG_QUERY (R66). -/
def carryRegQuery (index : Nat) (s : State) : State :=
  if 31 < index then s.reject 0x1D .badArgument
  else s.reply 0x1D (putRegQuery s.organ index (s.toEnv.registration index)
    (decide (s.toEnv.inForce s.play = some index)))

end Sys2Proof.Machine
end

