-- ==== Sys2Proof/Machine/Listening.lean ====
section
/-! DEFINITION. The Listening Channels: MIC_PUT, MIC_QUERY, SAMPLE_PAIR_COMPLETE, INPUT_LOST,
LAST_ONSET_EXPIRY and LAST_RELEASE_EXPIRY (R68 to R86), and the change of the matcher's behaviour that a
change of the live channels makes (R94, R102). -/

namespace Sys2Proof.Machine

/-! ### Live channels and the behaviour in force (R82, R94, R102) -/

/-- R102: the candidates of the channels that stop being live are dropped without being counted. -/
def dropCandidates (old new : Listening) (m : Matcher) : Matcher :=
  { m with candidates := mapFrom (fun c k => if old.live c && !new.live c then none else k) 0 m.candidates }

/-- R94: the matcher in a behaviour. A change to FIRST-ARRIVAL takes every candidate out of the table. -/
def Matcher.inBehaviour (m : Matcher) (b : MatchMode) : Matcher :=
  { m with
    behaviour := b
    candidates := if b = .firstArrival then m.candidates.map (fun _ => none) else m.candidates }

/-- R102: candidates that the change leaves over are taken as arriving reports, earliest first. Each is
taken whole before the next; one whose turn comes with the tracker HOLDING or the section ended is stray by R95,
and not dropped uncounted: the model's choice (log 28). -/
def State.takeCandidates (s : State) : List (Nat × Candidate) → State
  | [] => s
  | (c, k) :: rest => (s.act (fun e p => takeFirstArrival e c k.time p)).takeCandidates rest

/-- R94: the behaviour is derived again; a change raises latch MATCH MODE. -/
def State.deriveBehaviour (s : State) : State :=
  let b := behaviourFor s.play.matcher.mode s.listening.liveCount
  if b = s.play.matcher.behaviour then s
  else
    let held := if b = .firstArrival then heldCandidates s.play.matcher else []
    { s with play := (s.play.setMatcher (s.play.matcher.inBehaviour b)).latch .matchMode }.takeCandidates held

/-- R82: the matcher is told of each channel whose live state changes. -/
def State.setListening (s : State) (l : Listening) : State :=
  { s with listening := l, play := s.play.setMatcher (dropCandidates s.listening l s.play.matcher) }.deriveBehaviour

/-! ### Parameters (R72, R73) -/

/-- R70, R73: a channel that starts or stops listening is QUIET with level 0; its last onset and release
stay. -/
def Channel.silenced (ch : Channel) : Channel :=
  { ch with voiced := false, level := 0, peak := none, run := 0, runStart := none }

/-- R73: a channel with new parameters. -/
def Channel.withParams (ch : Channel) (params : MicParams) : Channel :=
  if ch.params.enabled = params.enabled then { ch with params := params }
  else { ch.silenced with params := params }

/-- MIC_PUT (R72, R73). -/
def carryMicPut (channel : Nat) (params : MicArg) (s : State) : State :=
  s.tested 0x20 (micPutTest channel params) (fun s =>
    (s.setListening { s.listening with
        channels := s.listening.channels.modify channel (fun ch => ch.withParams (storedMic params)) }).reply
      0x20 (putNum 1 channel ++ putMicParams (storedMic params)))

/-- MIC_QUERY (R85). -/
def carryMicQuery (channel : Nat) (s : State) : State :=
  match s.listening.channels[channel]? with
  | none => s.reject 0x21 .badArgument
  | some ch => s.reply 0x21 (putMicQuery ch ((s.listening.inputs[inputOf channel]?).any (·.present))
      (s.listening.live channel) (s.play.counter (.onsets channel)) (s.play.counter (.releases channel))
      s.clock)

/-! ### Frames (R68, R74 to R81) -/

/-- R68: the sample of a word: its first 16 bits, most significant first, completed with zero bits. -/
def sampleOf (bits : List Bool) : Sample :=
  BitVec.ofNat 16 (((bits ++ List.replicate 16 false).take 16).foldl (fun acc b => 2 * acc + b.toNat) 0)

/-- R75: the absolute value of a sample; −32,768 counts as 32,768. -/
def magnitude (x : Sample) : Nat := x.toInt.natAbs

/-- R75: the running level after a frame sum. -/
def levelAfter (level sum : Nat) : Nat := ((level : Int) + ((sum : Int) - (level : Int)) / 8).toNat

/-- R77.1: the refractory has run. -/
def refractoryRun (ch : Channel) (now : Tick) : Bool :=
  match ch.lastOnset with
  | none => true
  | some o => decide ((ch.params.refractory : Int) ≤ timeDiff now o.frame)

/-- R77: the frame makes an onset. -/
def makesOnset (ch : Channel) (sum : Nat) (now : Tick) : Bool :=
  refractoryRun ch now && decide ((16 + ch.params.rise) * ch.level ≤ 16 * sum) &&
  decide (ch.params.floor ≤ sum)

/-- R78, R80: the time a report carries: half a frame and the acoustic delay before a tick. -/
def reportTime (ch : Channel) (t : Tick) : Tick := t - ticks 2 - ticks ch.params.acousticDelay

/-- R78: the channel after an onset. -/
def Channel.onset (ch : Channel) (sum : Nat) (now : Tick) : Channel :=
  let level := levelAfter ch.level sum
  { ch with
    level := level, voiced := true, peak := some level, run := 0, runStart := none,
    lastOnset := some { frame := now, time := reportTime ch now, strength := sum } }

/-- R79: the peak of a VOICED channel after a frame that makes no onset. -/
def Channel.peakAfter (ch : Channel) (sum : Nat) : Nat := max (ch.peak.getD 0) (levelAfter ch.level sum)

/-- R79: the frame meets the release ratio. -/
def Channel.meetsRatio (ch : Channel) (sum : Nat) : Bool :=
  decide (16 * levelAfter ch.level sum ≤ ch.params.ratio * ch.peakAfter sum)

/-- R79: the start of the release run, with the frame that begins it. -/
def Channel.runFrom (ch : Channel) (now : Tick) : Tick := if ch.run = 0 then now else ch.runStart.getD now

/-- R79: a frame of a VOICED channel that makes neither an onset nor a release. -/
def Channel.sustained (ch : Channel) (sum : Nat) (now : Tick) : Channel :=
  let ch' := { ch with level := levelAfter ch.level sum, peak := some (ch.peakAfter sum) }
  if ch.meetsRatio sum then { ch' with run := ch.run + 1, runStart := some (ch.runFrom now) }
  else { ch' with run := 0, runStart := none }

/-- R79, R80: the frame makes a release. -/
def makesRelease (ch : Channel) (sum : Nat) : Bool :=
  ch.voiced && ch.meetsRatio sum && decide (ch.params.confirm ≤ ch.run + 1)

/-- R80: the time of a release report. -/
def releaseTime (ch : Channel) (now : Tick) : Tick := reportTime ch (ch.runFrom now)

/-- R80: the channel after a release. -/
def Channel.released (ch : Channel) (sum : Nat) (now : Tick) : Channel :=
  { ch with
    level := levelAfter ch.level sum, voiced := false, peak := none, run := 0, runStart := none,
    lastRelease := some (releaseTime ch now) }

/-- What a frame makes for its channel (R81). -/
inductive Report where
  | none | onset (time : Tick) (strength : Nat) | release (time : Tick)
deriving DecidableEq, Repr

/-- R81: the work of one frame of a live channel: the channel after it, and its report. -/
def workFrame (ch : Channel) (sum : Nat) (now : Tick) : Channel × Report :=
  if makesOnset ch sum now then (ch.onset sum now, .onset (reportTime ch now) sum)
  else if makesRelease ch sum then (ch.released sum now, .release (releaseTime ch now))
  else if ch.voiced then (ch.sustained sum now, .none)
  else ({ ch with level := levelAfter ch.level sum }, .none)

/-- R78, R80, R82: a report is counted where it is made and handed to the matcher. -/
def takeReport (e : Env) (c : Nat) (r : Report) (p : Play) : Play :=
  match r with
  | .none => p
  | .onset t strength => takeOnset e c t strength (p.count (.onsets c))
  | .release t => takeRelease e t (p.count (.releases c))

/-- The report of a channel's frame; none when the channel is not live. -/
def Listening.reportOf (l : Listening) (c sum : Nat) (now : Tick) : Report :=
  if l.live c then ((l.channels[c]?).map (fun ch => (workFrame ch sum now).2)).getD .none else .none

/-- A channel's frame is worked when the channel is live. -/
def Listening.workChannel (l : Listening) (c sum : Nat) (now : Tick) : Listening :=
  if l.live c then { l with channels := l.channels.modify c (fun ch => (workFrame ch sum now).1) } else l

/-- R81: whether the second channel's report reaches the matcher first: with two reports either may
(log 18). -/
def secondFirst (now : Tick) (first second : Report) : Bool :=
  match first, second with
  | .none, _ => false
  | _, .none => false
  | _, _ => Config.secondChannelFirst now

/-- R74, R81: both channels of an input work a completed frame, and their reports reach the matcher. -/
def State.completeFrame (s : State) (i : Nat) (low high : Nat) : State :=
  let first := s.listening.reportOf (2 * i) low s.clock
  let second := s.listening.reportOf (2 * i + 1) high s.clock
  let l := (s.listening.workChannel (2 * i) low s.clock).workChannel (2 * i + 1) high s.clock
  let s := { s with listening := l }
  if secondFirst s.clock first second then
    (s.act (fun e p => takeReport e (2 * i + 1) second p)).act (fun e p => takeReport e (2 * i) first p)
  else (s.act (fun e p => takeReport e (2 * i) first p)).act (fun e p => takeReport e (2 * i + 1) second p)

/-- R69, R74: an input with one more pair. A regained input begins a new frame with it. -/
def AudioInput.withPair (a : AudioInput) (low high : Sample) (now : Tick) : AudioInput :=
  { present := true
    lossAt := some (now + ticks 8)
    pairs := a.pairs + 1
    lowSum := a.lowSum + magnitude low
    highSum := a.highSum + magnitude high }

/-- R74: the next pair begins the next frame. -/
def AudioInput.nextFrame (a : AudioInput) : AudioInput := { a with pairs := 0, lowSum := 0, highSum := 0 }

def Listening.setInput (l : Listening) (i : Nat) (a : AudioInput) : Listening :=
  { l with inputs := l.inputs.set i a }

/-- R69, R74: a pair completes on an input. -/
def State.takePair (s : State) (i : Nat) (a : AudioInput) (low high : Sample) : State :=
  let b := a.withPair low high s.clock
  let s := s.setListening (s.listening.setInput i (if 64 ≤ b.pairs then b.nextFrame else b))
  let s := if a.present then s else { s with play := s.play.latch .microphone }
  if 64 ≤ b.pairs then s.completeFrame i b.lowSum b.highSum else s

/-- SAMPLE_PAIR_COMPLETE (R68). -/
def execSamplePairComplete (input : Nat) (low high : List Bool) (s : State) :
    Host.Outcome State Fault Refusal :=
  .next (s.event (fun s => match s.listening.inputs[input]? with
    | some a => s.takePair input a (sampleOf low) (sampleOf high)
    | none => s))

/-- The loss of an input has come. -/
def State.lossDue (s : State) (i : Nat) : Bool :=
  (s.listening.inputs[i]?).any (fun a => a.present && dueAt s.clock a.lossAt)

/-- R70: the input is LOST and its channels are QUIET. -/
def Listening.loseInput (l : Listening) (i : Nat) : Listening :=
  { inputs := l.inputs.set i .lost
    channels := mapFrom (fun c ch => if inputOf c = i then ch.silenced else ch) 0 l.channels }

/-- INPUT_LOST (R70). -/
def execInputLost (input : Nat) (s : State) : Host.Outcome State Fault Refusal :=
  .next (s.event (fun s =>
    if s.lossDue input then
      { s with play := s.play.latch .microphone }.setListening (s.listening.loseInput input)
    else s))

/-! ### Expiries of the record (R76) -/

def State.setChannel (s : State) (c : Nat) (f : Channel → Channel) : State :=
  { s with listening := { s.listening with channels := s.listening.channels.modify c f } }

/-- R76: the last onset is 2^20 ticks old, counted from its report time, the earlier of its two ticks, so that
every stored time lies within 2^20 ticks of the service clock (log 12). -/
def State.lastOnsetDue (s : State) (c : Nat) : Bool :=
  agesOut s.clock ((s.listening.channels[c]?).bind (fun ch => ch.lastOnset.map (·.time)))

/-- R76: the last release is 2^20 ticks old. -/
def State.lastReleaseDue (s : State) (c : Nat) : Bool :=
  agesOut s.clock ((s.listening.channels[c]?).bind (·.lastRelease))

/-- LAST_ONSET_EXPIRY (R76). -/
def execLastOnsetExpiry (channel : Nat) (s : State) : Host.Outcome State Fault Refusal :=
  .next (s.event (fun s =>
    if s.lastOnsetDue channel then s.setChannel channel (fun ch => { ch with lastOnset := none }) else s))

/-- LAST_RELEASE_EXPIRY (R76). -/
def execLastReleaseExpiry (channel : Nat) (s : State) : Host.Outcome State Fault Refusal :=
  .next (s.event (fun s =>
    if s.lastReleaseDue channel then s.setChannel channel (fun ch => { ch with lastRelease := none }) else s))

end Sys2Proof.Machine
end

