-- ==== Sys2Proof/Machine/MatcherTracker.lean ====
section
/-! DEFINITION. The commands of the Onset Matcher and the Tempo Tracker: MATCH_PUT, CANDIDATE_EXPIRY,
WINDOW_CLOSE_EXPIRY, MATCHED_TIME_EXPIRY, TRACK_PUT, TRACK_QUERY, REBASE, FERMATA_EXPIRY,
MAXIMUM_END_EXPIRY, LAST_MATCHED_ANCHOR_EXPIRY and REFERENCE_TIME_EXPIRY (R88 to R128). -/

namespace Sys2Proof.Machine

def State.setTracker (s : State) (tr : Tracker) : State := { s with play := { s.play with tracker := tr } }

/-! ### Onset Matcher -/

/-- R93: the mode and the merge window are stored, and the behaviour derived again (R94, R102). -/
def State.putMatch (s : State) (mode : MatchMode) (merge : Nat) : State :=
  { s with play := s.play.setMatcher { s.play.matcher with mode := mode, merge := merge } }.deriveBehaviour

/-- R93: the reply of MATCH PUT. -/
def putMatchReply (m : Matcher) : List Byte :=
  putNum 1 m.mode.code ++ putNum 1 m.merge ++ putNum 1 m.behaviour.code

/-- MATCH_PUT (R93). -/
def carryMatchPut (mode mergeWindow : Nat) (s : State) : State :=
  match modeOf mode with
  | none => s.reject 0x22 .badArgument
  | some md =>
    let s := s.putMatch md (clamp 10 200 mergeWindow)
    s.reply 0x22 (putMatchReply s.play.matcher)

/-- A candidate's expiry has come. -/
def candidateDue (e : Env) (p : Play) (c : Nat) : Bool :=
  dueAt e.clock ((p.matcher.candidate c).map (·.expiry))

/-- CANDIDATE_EXPIRY (R101). -/
def execCandidateExpiry (channel : Nat) (s : State) : Host.Outcome State Fault Refusal :=
  .next (s.event (fun s => s.act (fun e p => expireCandidate e channel p)))

/-- WINDOW_CLOSE_EXPIRY (R91). -/
def execWindowCloseExpiry (s : State) : Host.Outcome State Fault Refusal :=
  .next (s.event (fun s => s.act takeWindowClose))

/-- R88: an anchor's matched time is 2^20 ticks old. -/
def matchedTimeDue (e : Env) (p : Play) (i : Nat) : Bool :=
  agesOut e.clock ((p.matcher.anchors[i]?).bind (·.time))

/-- R88: the matched time becomes absent, and the anchor stays MATCHED. -/
def forgetMatchedTime (e : Env) (i : Nat) (p : Play) : Play :=
  if matchedTimeDue e p i then
    p.setMatcher { p.matcher with anchors := p.matcher.anchors.modify i (fun a => { a with time := none }) }
  else p

/-- MATCHED_TIME_EXPIRY (R88). -/
def execMatchedTimeExpiry (anchor : Nat) (s : State) : Host.Outcome State Fault Refusal :=
  .next (s.event (fun s => { s with play := forgetMatchedTime s.toEnv anchor s.play }))

/-! ### Tempo Tracker -/

/-- R112: the parameters are stored; a changed window moves the window-close expiry at once. -/
def putTrack (params : TrackParams) (e : Env) (p : Play) : Play :=
  let q := { p with tracker := { p.tracker with params := params } }
  if params.window = p.tracker.params.window then q else deriveWindow e q

/-- TRACK_PUT (R112). -/
def carryTrackPut (params : TrackArg) (s : State) : State :=
  (s.act (putTrack (storedTrack params))).reply 0x23 (putTrackParams (storedTrack params))

/-- R105, R128: the part asked for; none above 3. -/
def trackQueryBody (s : State) (part : Nat) (start : Option Nat) : Option (List Byte) :=
  match part with
  | 0 => some (putTracker s.play.tracker s.clock)
  | 1 => some (putHoldPart s.play.tracker s.clock)
  | 2 => some (putMatcher s.play.matcher s.listening.liveCount)
  | 3 => some (putAnchors s.play.matcher.anchors (start.getD 0))
  | _ => none

/-- TRACK_QUERY (R105, R128). -/
def carryTrackQuery (part : Nat) (start : Option Nat) (s : State) : State :=
  match trackQueryBody s part start with
  | none => s.reject 0x24 .badArgument
  | some body => s.reply 0x24 body

/-- R111: the rebase has come. -/
def rebaseDue (e : Env) (p : Play) : Bool :=
  p.tracker.tracking && dueAfter e.clock Config.rebaseSpan p.tracker.refTime

/-- REBASE (R111). -/
def execRebase (s : State) : Host.Outcome State Fault Refusal :=
  .next (s.event (fun s => s.act (fun e p => if rebaseDue e p then rebaseNow e p else p)))

/-- FERMATA_EXPIRY (R121). -/
def execFermataExpiry (s : State) : Host.Outcome State Fault Refusal :=
  .next (s.event (fun s => s.act takeFermata))

/-- R126: the maximum end of the hold in progress has come. -/
def maximumEndDue (e : Env) (p : Play) : Bool :=
  decide (p.tracker.state = .holding) && dueAt e.clock (p.tracker.hold.map (·.maxEnd))

/-- MAXIMUM_END_EXPIRY (R126). -/
def execMaximumEndExpiry (s : State) : Host.Outcome State Fault Refusal :=
  .next (s.event (fun s => s.act (fun e p => if maximumEndDue e p then endHold e p else p)))

/-- R107: the last matched anchor's time is 2^20 ticks old. -/
def lastAnchorDue (e : Env) (p : Play) : Bool := agesOut e.clock (p.tracker.lastAnchor.map (·.time))

/-- LAST_MATCHED_ANCHOR_EXPIRY (R107). -/
def execLastMatchedAnchorExpiry (s : State) : Host.Outcome State Fault Refusal :=
  .next (s.event (fun s =>
    if lastAnchorDue s.toEnv s.play then s.setTracker { s.play.tracker with lastAnchor := none } else s))

/-- R107: R is 2^20 ticks old while the tracker is IDLE. -/
def referenceDue (e : Env) (p : Play) : Bool :=
  decide (p.tracker.state = .idle) && agesOut e.clock p.tracker.refTime

/-- REFERENCE_TIME_EXPIRY (R107). -/
def execReferenceTimeExpiry (s : State) : Host.Outcome State Fault Refusal :=
  .next (s.event (fun s =>
    if referenceDue s.toEnv s.play then s.setTracker { s.play.tracker with refTime := none } else s))

end Sys2Proof.Machine
end

