-- ==== Sys2Proof/Machine/Playing.lean ====
section
/-! DEFINITION. The commands of the Score Reader: PLAY, GAP_END, SCHEDULING_EXPIRY, STOP_ITEM,
CANCEL_ALL, READER_PUT, the cue contacts and their debounce, and LAST_CUE_EXPIRY (R131 to R151, R174). -/

namespace Sys2Proof.Machine

/-- R132: a taken PLAY takes the item up and prepares its first section, or waits for GO. -/
def startItem (index startMode n : Nat) (item : Item) (tune : Tune) (e : Env) (p : Play) : Play :=
  let p := takeUp index n item tune p
  if startMode = 0 then prepare e 0 p else waitForGo p

/-- R132: the reply of PLAY. -/
def putPlayReply (index : Nat) (flow : FlowState) (b : Bounds) : List Byte :=
  putNum 1 index ++ putNum 1 flow.code ++ putNum 3 b.least ++ putNum 3 b.greatest ++ putNum 3 b.starting

/-- R132: a PLAY that passes its tests; of an index whose item or tune is missing, which the tests
refuse, nothing. -/
def State.playItem (s : State) (index startMode : Nat) : State :=
  match (s.items[index]?).bind (fun it => (s.toEnv.playable it.tuneId).map (fun x => (it, x))) with
  | none => s
  | some (it, n, tune) =>
    let t := s.act (startItem index startMode n it tune)
    t.reply 0x28 (putPlayReply index t.play.reader.flow (effectiveTempo it.tempo tune.header))

/-- PLAY (R132, R133). -/
def carryPlay (index startMode : Nat) (s : State) : State :=
  s.tested 0x28 (playTest s index startMode) (fun s =>
    s.playItem index startMode)

/-- R137: the gap's end has come. -/
def gapEndDue (e : Env) (p : Play) : Bool := decide (p.reader.flow = .gap) && dueAt e.clock p.reader.gapEnd

/-- GAP_END (R137). -/
def execGapEnd (s : State) : Host.Outcome State Fault Refusal :=
  .next (s.event (fun s => s.act (fun e p => if gapEndDue e p then startSection e p else p)))

/-- SCHEDULING_EXPIRY (R140). -/
def execSchedulingExpiry (s : State) : Host.Outcome State Fault Refusal :=
  .next (s.event (fun s => s.act schedule))

/-- STOP_ITEM (R150). -/
def carryStopItem (s : State) : State :=
  if s.play.reader.flow = .idle then s.reject 0x29 .notFound
  else (s.act (fun _ p => pressStop p)).reply 0x29
    (putNum 1 (s.play.cursor.getD 0) ++ putNum 1 FlowState.idle.code)

/-- R174: every record is retired, and the item in hand ends CANCELLED. -/
def cancelAll (p : Play) : Play :=
  let p := retireAll p
  if p.reader.flow = .idle then p else itemEnd .cancelled p

/-- CANCEL_ALL (R174). -/
def carryCancelAll (s : State) : State :=
  (s.act (fun _ p => cancelAll p)).reply 0x2A (putNum 1 s.play.slotsInUse)

/-- R151: the horizon is stored and the scheduling expiry derived again. -/
def putHorizon (horizon : Nat) (e : Env) (p : Play) : Play :=
  deriveScheduling e { p with reader := { p.reader with horizon := horizon } }

/-- READER_PUT (R151). -/
def carryReaderPut (horizon : Nat) (s : State) : State :=
  (s.act (putHorizon (clamp 100 1000 horizon))).reply 0x2B (putNum 2 (clamp 100 1000 horizon))

/-! ### Cue inputs (R147) -/

def Reader.cue (rd : Reader) : Button → CueInput
  | .go => rd.cueGo
  | .hold => rd.cueHold
  | .stop => rd.cueStop

def Reader.setCue (rd : Reader) (b : Button) (c : CueInput) : Reader :=
  match b with
  | .go => { rd with cueGo := c }
  | .hold => { rd with cueHold := c }
  | .stop => { rd with cueStop := c }

/-- R147: the input is read closed. -/
def CueInput.readClosed (c : CueInput) (now : Tick) : CueInput :=
  match c.state with
  | .opened => { state := .closing, timer := some now }
  | .opening => { state := .closed, timer := none }
  | .closing => c
  | .closed => c

/-- R147: the input is read open. -/
def CueInput.readOpen (c : CueInput) (now : Tick) : CueInput :=
  match c.state with
  | .closing => { state := .opened, timer := none }
  | .closed => { state := .opening, timer := some now }
  | .opened => c
  | .opening => c

/-- R147: 20 ticks have passed since the timer's start. -/
def CueInput.due (c : CueInput) (now : Tick) : Bool :=
  (decide (c.state = .closing) || decide (c.state = .opening)) &&
  dueAfter now 20 c.timer

def setCue (b : Button) (c : CueInput) (p : Play) : Play := { p with reader := p.reader.setCue b c }

/-- R147: the debounce expiry: a closing is counted as a press, and an opening arms the input. -/
def debounce (b : Button) (e : Env) (p : Play) : Play :=
  let c := p.reader.cue b
  if c.due e.clock then
    if c.state = .closing then press e b (setCue b { state := .closed, timer := none } p)
    else setCue b { state := .opened, timer := none } p
  else p

/-- CUE_CONTACT_CLOSED (R147). -/
def execCueContactClosed (button : Button) (s : State) : Host.Outcome State Fault Refusal :=
  .next (s.event (fun s =>
    { s with play := setCue button ((s.play.reader.cue button).readClosed s.clock) s.play }))

/-- CUE_CONTACT_OPENED (R147). -/
def execCueContactOpened (button : Button) (s : State) : Host.Outcome State Fault Refusal :=
  .next (s.event (fun s =>
    { s with play := setCue button ((s.play.reader.cue button).readOpen s.clock) s.play }))

/-- CUE_DEBOUNCE_EXPIRY (R147 to R150). -/
def execCueDebounceExpiry (button : Button) (s : State) : Host.Outcome State Fault Refusal :=
  .next (s.event (fun s => s.act (debounce button)))

/-- R131: the last cue is 2^20 ticks old. -/
def lastCueDue (e : Env) (p : Play) : Bool := agesOut e.clock (p.reader.lastCue.map (·.tick))

/-- LAST_CUE_EXPIRY (R131). -/
def execLastCueExpiry (s : State) : Host.Outcome State Fault Refusal :=
  .next (s.event (fun s =>
    if lastCueDue s.toEnv s.play then
      { s with play := { s.play with reader := { s.play.reader with lastCue := none } } }
    else s))

end Sys2Proof.Machine
end

