-- ==== Sys2Proof/Machine/Keys.lean ====
section
/-! DEFINITION. The commands of the Keying Table: ON_TIME_EXPIRY, OFF_TIME_EXPIRY, DEADLINE_EXPIRY,
KEY_LOOKUP, KEY_LIST, KEY_SOUND, KEY_RELEASE and KEY_HOLD (R156, R158, R169 to R173). -/

namespace Sys2Proof.Machine

/-- ON_TIME_EXPIRY (R156, R157). -/
def execOnTimeExpiry (slot : Nat) (s : State) : Host.Outcome State Fault Refusal :=
  .next (s.event (fun s => s.act (fun e p => takeOnTime e slot p)))

/-- OFF_TIME_EXPIRY (R158). -/
def execOffTimeExpiry (slot : Nat) (s : State) : Host.Outcome State Fault Refusal :=
  .next (s.event (fun s => s.act (fun e p => takeOffTime e slot p)))

/-- DEADLINE_EXPIRY (R169). -/
def execDeadlineExpiry (slot : Nat) (s : State) : Host.Outcome State Fault Refusal :=
  .next (s.event (fun s => s.act (fun e p => takeDeadline e slot p)))

/-- R173: a KEY LOOKUP's answer about the record in a slot. -/
def State.answerLookup (s : State) (slot : Option Nat) : State :=
  match slot.bind (fun i => (s.play.record i).map (fun r => (i, r))) with
  | none => s.reject 0x30 .notFound
  | some (i, r) => s.reply 0x30 (putKeyLookup s.toEnv s.play i r)

/-- KEY_LOOKUP (R173). -/
def carryKeyLookup (which : KeyRef) (s : State) : State :=
  match which with
  | .bySlot n => if 127 < n then s.reject 0x30 .badArgument else s.answerLookup (some n)
  | .byKey d k => if 3 < d then s.reject 0x30 .badArgument else s.answerLookup (s.play.lookup d k)
  | .badForm _ _ => s.reject 0x30 .badArgument

/-- KEY_LIST (R173). -/
def carryKeyList (start : Option Nat) (s : State) : State :=
  if 127 < start.getD 0 then s.reject 0x31 .badArgument
  else s.reply 0x31 (putKeyList s.play (start.getD 0))

/-- R170: the record that a taken KEY SOUND makes, for a stored duration. -/
def soundedRecord (e : Env) (d k duration : Nat) : KeyRecord :=
  { division := d, key := k, state := .sounding, origin := .planner, voices := 0, priority := 3, span := none,
    onTime := e.clock, offTime := some (e.clock + ticks (max duration e.minSpeak)),
    deadline := some (e.clock + ticks e.organ.settings.cipherGuard), successor := none, holdKind := none }

/-- KEY_SOUND (R170). -/
def carryKeySound (division key duration : Nat) (s : State) : State :=
  s.tested 0x32 (keySoundTest s division key) (fun s =>
    let stored := storedDuration s.organ.settings.cipherGuard duration
    let slot := s.play.freeSlot.getD 0
    let r := soundedRecord s.toEnv division key stored
    { s with play := s.play.setRec slot (some r) }.reply 0x32 (putKeyRecord slot r ++ putNum 2 stored))

/-- R171: the record in a slot is released. -/
def State.releaseSlot (s : State) (slot : Option Nat) : State :=
  match slot.bind (fun i => (s.play.record i).map (fun r => (i, r))) with
  | none => s.reject 0x33 .notFound
  | some (i, r) =>
    (s.act (fun e p => retire e i p)).reply 0x33
      (putNum 1 i ++ putNum 1 r.origin.code ++ putNum 1 r.state.code)

/-- KEY_RELEASE (R171). -/
def carryKeyRelease (which : KeyRef) (s : State) : State :=
  match which with
  | .bySlot n => if 127 < n then s.reject 0x33 .badArgument else s.releaseSlot (some n)
  | .byKey d k => if 3 < d then s.reject 0x33 .badArgument else s.releaseSlot (s.play.currentSlot d k)
  | .badForm _ _ => s.reject 0x33 .badArgument

/-- R172: a current record held by the host. -/
def heldByHost (r : KeyRecord) : KeyRecord :=
  { r with state := .held, holdKind := some .host, offTime := none }

/-- KEY_HOLD (R172). -/
def carryKeyHold (slot : Nat) (s : State) : State :=
  if 127 < slot then s.reject 0x34 .badArgument
  else match s.play.record slot with
    | none => s.reject 0x34 .notFound
    | some r =>
      if r.state = .scheduled then s.reject 0x34 .notReady
      else { s with play := s.play.setRec slot (some (heldByHost r)) }.reply 0x34
        (putKeyRecord slot (heldByHost r))

end Sys2Proof.Machine
end

