-- ==== Sys2Proof/Machine/StopsSwell.lean ====
section
/-! DEFINITION. The commands of Stop Action and Swell: STOPS_APPLY, PULSE_END_EXPIRY,
STOP_TIMEOUT_EXPIRY, APPLY_TICK_EXPIRY, STOPS_QUERY, SWELL_PUT, SWELL_UPDATE and SWELL_PERIOD_START
(R181 to R193). -/

namespace Sys2Proof.Machine

/-- STOPS_APPLY (R182, R186). -/
def carryStopsApply (registration : Nat) (s : State) : State :=
  if 31 < registration then s.reject 0x38 .badArgument
  else if s.chain.phase ≠ .running then s.reject 0x38 .notReady
  else
    let s := s.act (requestApply · registration .host ·)
    s.reply 0x38 (putApply s.play.apply)

/-- R184: a stop is PULSING and its pulse end has come. -/
def pulseEndDue (e : Env) (p : Play) (d i : Nat) : Bool :=
  (p.stop d i).any (fun r => decide (r.action = .pulsing) && dueAt e.clock r.pulseEnd)

/-- PULSE_END_EXPIRY (R184, R186). -/
def execPulseEndExpiry (division stop : Nat) (s : State) : Host.Outcome State Fault Refusal :=
  .next (s.event (fun s => s.act (fun e p => endPulse e division stop p)))

/-- R184: a stop is SETTLING and its timeout has come. -/
def timeoutDue (e : Env) (p : Play) (d i : Nat) : Bool :=
  (p.stop d i).any (fun r => decide (r.action = .settling) && dueAt e.clock r.timeout)

/-- STOP_TIMEOUT_EXPIRY (R184). -/
def execStopTimeoutExpiry (division stop : Nat) (s : State) : Host.Outcome State Fault Refusal :=
  .next (s.event (fun s => s.act (fun e p => timeOutStop e division stop p)))

/-- R181: a tick of the apply record. -/
def Apply.tick (a : Apply) : ApplyTick → Option Tick
  | .start => a.startTick
  | .stop => a.endTick

def Apply.clearTick (a : Apply) : ApplyTick → Apply
  | .start => { a with startTick := Option.none }
  | .stop => { a with endTick := Option.none }

/-- R181: a tick of the apply record is 2^20 ticks old. -/
def applyTickDue (e : Env) (p : Play) (which : ApplyTick) : Bool := agesOut e.clock (p.apply.tick which)

/-- APPLY_TICK_EXPIRY (R181). -/
def execApplyTickExpiry (which : ApplyTick) (s : State) : Host.Outcome State Fault Refusal :=
  .next (s.event (fun s =>
    if applyTickDue s.toEnv s.play which then
      { s with play := { s.play with apply := s.play.apply.clearTick which } }
    else s))

/-- STOPS_QUERY (R188). -/
def carryStopsQuery (division : Nat) (start : Option Nat) (s : State) : State :=
  if 3 < division then s.reject 0x39 .badArgument
  else match s.organ.division division with
    | none => s.reject 0x39 .notFound
    | some _ => s.reply 0x39 (putStopsQuery s.play.apply (s.play.stops.getD division []) s.swell.outputs
        (start.getD 0) s.clock)

/-! ### Swell (R190 to R192) -/

/-- SWELL_PUT (R190). -/
def carrySwellPut (output slew : Nat) (s : State) : State :=
  match s.swell.outputs[output]? with
  | none => s.reject 0x3A .badArgument
  | some o =>
    let stored := { o with slew := clamp 1 255 slew }
    { s with swell := { s.swell with outputs := s.swell.outputs.set output stored } }.reply 0x3A
      (putSwellReply output stored)

/-- R191: the division whose swell output this is. -/
def Organ.swellDivision (o : Organ) (output : Nat) : Option Nat :=
  o.divisions.findIdx? (fun v => v.any (fun v => decide (v.swell = some output)))

/-- R191: the target of an output that follows. -/
def swellTarget (t : Settings) (e : DivisionEntry) (level : Nat) : Nat :=
  if level ≤ t.levelLow then e.least
  else if t.levelHigh ≤ level then e.greatest
  else e.least + (e.greatest - e.least) * (level - t.levelLow) / (t.levelHigh - t.levelLow)

/-- R191: the duty after an update toward a target. -/
def slewTo (duty slew target : Nat) : Nat :=
  if duty ≤ target then (if target - duty ≤ slew then target else duty + slew)
  else (if duty - target ≤ slew then target else duty - slew)

/-- R191: the target of an output at an update; none when the output holds. -/
def State.followTarget (s : State) (output : Nat) : Option Nat :=
  match s.organ.swellDivision output, s.toEnv.inForce s.play, s.listening.choirLevel with
  | some d, some r, some level =>
    ((s.toEnv.registration r).divisions[d]?).map (fun e => swellTarget s.organ.settings e level)
  | _, _, _ => none

/-- R191: an output at an update. -/
def SwellOutput.update (o : SwellOutput) : Option Nat → SwellOutput
  | none => o
  | some t => { o with duty := slewTo o.duty o.slew t, target := some t }

/-- SWELL_UPDATE (R191). -/
def execSwellUpdate (s : State) : Host.Outcome State Fault Refusal :=
  .next (s.event (fun s =>
    if hasCome s.clock s.swell.nextUpdate then
      { s with swell := { s.swell with
          outputs := mapFrom (fun i o => o.update (s.followTarget i)) 0 s.swell.outputs
          nextUpdate := s.swell.nextUpdate + ticks 100 } }
    else s))

/-- SWELL_PERIOD_START (R192): each output reads its duty. -/
def execSwellPeriodStart (s : State) : Host.Outcome State Fault Refusal :=
  .next (s.event (fun s =>
    if hasCome s.clock s.swell.nextPeriod then
      { s with swell := { s.swell with
          outputs := s.swell.outputs.map (fun o => { o with driven := o.duty })
          nextPeriod := s.swell.nextPeriod + ticks 20 } }
    else s))

/-- R192: for how many microseconds of a period an output is high. -/
def SwellOutput.highMicroseconds (o : SwellOutput) : Nat := o.driven * 20000 / 1024

end Sys2Proof.Machine
end

