-- ==== Sys2Proof/Machine/Link.lean ====
section
/-! DEFINITION. The line of the Planner Link (R194 to R198): the receiver, which takes the bytes of a frame
one by one, examines the frame and has its request carried out; PARTIAL_FRAME_BYTE, FRAME_GAP_EXPIRY,
FRAME_REJECTED, FRAME_WHILE_BUSY and ANSWER_SENT; and how a command that is a whole frame arrives. -/

namespace Sys2Proof.Machine

/-- R194: the rate of the line, in baud, as RATE was sampled at the latest reset's end. -/
def Link.baud (l : Link) : Nat := if l.fast then 115200 else 38400

/-- R194, R206: the levels that PLTX carries while the answer in progress is sent, and none without one. -/
def Link.sentLevels (l : Link) : List Bool :=
  match l.answer with
  | none => []
  | some a => levelsOf (frameOnLine (a.code :: a.body))

/-- R197: a request is carried out by its block. A command that is no request is carried by no frame. -/
def carryOut (c : Instr) (s : State) : State :=
  match c with
  | .status => carryStatus s
  | .reset => carryReset s
  | .eventsRead => carryEventsRead s
  | .eventsAck set => carryEventsAck set s
  | .eventsMask set => carryEventsMask set s
  | .eventsForce set => carryEventsForce set s
  | .countersRead start => carryCountersRead start s
  | .countersClear => carryCountersClear s
  | .divisionPut division rec => carryDivisionPut division rec s
  | .divisionClear division => carryDivisionClear division s
  | .divisionQuery division => carryDivisionQuery division s
  | .organPut values => carryOrganPut values s
  | .survey => carrySurvey s
  | .tuneOpen tuneId length => carryTuneOpen tuneId length s
  | .tuneData bytes => carryTuneData bytes s
  | .tuneAbort tuneId => carryTuneAbort tuneId s
  | .tuneRetire tuneId => carryTuneRetire tuneId s
  | .tuneQuery which => carryTuneQuery which s
  | .loadResult => carryLoadResult s
  | .itemPut index item => carryItemPut index item s
  | .itemReplace index item => carryItemReplace index item s
  | .itemRemove index => carryItemRemove index s
  | .itemQuery index => carryItemQuery index s
  | .regPut index reg => carryRegPut index reg s
  | .regQuery index => carryRegQuery index s
  | .micPut channel params => carryMicPut channel params s
  | .micQuery channel => carryMicQuery channel s
  | .matchPut mode mergeWindow => carryMatchPut mode mergeWindow s
  | .trackPut params => carryTrackPut params s
  | .trackQuery part start => carryTrackQuery part start s
  | .play index startMode => carryPlay index startMode s
  | .stopItem => carryStopItem s
  | .cancelAll => carryCancelAll s
  | .readerPut horizon => carryReaderPut horizon s
  | .keyLookup which => carryKeyLookup which s
  | .keyList start => carryKeyList start s
  | .keySound division key duration => carryKeySound division key duration s
  | .keyRelease which => carryKeyRelease which s
  | .keyHold slot => carryKeyHold slot s
  | .stopsApply registration => carryStopsApply registration s
  | .stopsQuery division start => carryStopsQuery division start s
  | .swellPut output slew => carrySwellPut output slew s
  | .powerReset | .pinReset | .partialFrameByte _ | .frameGapExpiry | .frameRejected _ | .frameWhileBusy _
  | .answerSent _ | .closingSequenceComplete | .resetClearingShiftComplete | .surveyReturn _
  | .surveyNoReturn | .scanStart | .scanComplete _ _ | .validationSuccess | .validationFailure
  | .samplePairComplete _ _ _ | .inputLost _ | .lastOnsetExpiry _ | .lastReleaseExpiry _
  | .candidateExpiry _ | .windowCloseExpiry | .matchedTimeExpiry _ | .rebase | .fermataExpiry
  | .maximumEndExpiry | .lastMatchedAnchorExpiry | .referenceTimeExpiry | .gapEnd | .schedulingExpiry
  | .cueContactClosed _ | .cueContactOpened _ | .cueDebounceExpiry _ | .lastCueExpiry | .onTimeExpiry _
  | .offTimeExpiry _ | .deadlineExpiry _ | .pulseEndExpiry _ _ | .stopTimeoutExpiry _ _
  | .applyTickExpiry _ | .swellUpdate | .swellPeriodStart | .resetEnd _ => s

/-! ### The receiver (R195, R196, R198) -/

/-- R195: the gap expiry, 11 ticks after the latest byte. -/
def gapFrom (now : Tick) : Option Tick := some (now + ticks 11)

def State.setReceiver (s : State) (r : Receiver) : State := { s with link := { s.link with receiver := r } }

/-- R195, R196, R198: a frame that fails is answered by its reject, at once or when the link is free.
BAD FRAME goes up for each frame answered BAD_FRAME. -/
def State.refuseFrame (s : State) (code : Nat) (reason : Reason) (detail : Nat) : State :=
  let counts := decide (reason = .badFrame)
  if s.link.busy then s.hunt.whileBusy (rejectAnswer code reason detail) counts
  else
    let s := s.hunt.reject code reason detail
    if counts then s.countBadFrame else s

/-- R197, R198: a frame that passes is carried out on a free link, and on a busy one it is rejected. -/
def State.acceptFrame (s : State) (code : Nat) (carry : State → State) : State :=
  if s.link.busy then s.hunt.whileBusy (rejectAnswer code .busy 0) false else carry s.hunt

/-- R195: a byte in LENGTH. -/
def State.lengthByte (s : State) (b : Byte) : State :=
  if 1 ≤ b.toNat ∧ b.toNat ≤ 64 then
    s.setReceiver { state := .body, need := b.toNat, bytes := [], gapAt := gapFrom s.clock }
  else s.refuseFrame 0 .badFrame 2

/-- R195: a byte in BODY. -/
def State.bodyByte (s : State) (b : Byte) : State :=
  let bytes := s.link.receiver.bytes ++ [b]
  s.setReceiver { s.link.receiver with
    state := if s.link.receiver.need ≤ bytes.length then .check else .body
    bytes := bytes
    gapAt := gapFrom s.clock }

/-- What a frame that fails its examination is refused with (R196). -/
def refusalOf (f : RawFrame) : Option (Reason × Nat) :=
  match examine f with
  | .badSum => some (.badFrame, 1)
  | .unknownCode => some (.unknown, 0)
  | .badLength => some (.badFrame, 3)
  | .request _ => none

/-- R195 to R198: a complete frame is examined, and refused or accepted. -/
def State.takeFrame (s : State) (f : RawFrame) : State :=
  match refusalOf f, examine f with
  | some (reason, detail), _ => s.refuseFrame f.code reason detail
  | none, .request c => s.acceptFrame f.code (carryOut c)
  | none, _ => s

/-- R195: a byte arrives. In CHECK it completes the frame. -/
def State.receive (s : State) (b : Byte) : State :=
  match s.link.receiver.state with
  | .hunt =>
    if b = 0x7E#8 then s.setReceiver { state := .length, need := 0, bytes := [], gapAt := gapFrom s.clock }
    else s
  | .length => s.lengthByte b
  | .body => s.bodyByte b
  | .check => s.takeFrame { bytes := s.link.receiver.bytes, check := b }

/-- Bytes arrive one after another. -/
def State.receiveAll : List Byte → State → State
  | [], s => s
  | b :: bs, s => State.receiveAll bs (s.receive b)

/-- R194: a character whose stop bit is low is discarded as if it had not arrived. -/
def State.receiveCharacter (s : State) (c : Character) : State := if c.stop then s.receive c.data else s

/-! ### A command that is a whole frame (log 3) -/

/-- What the receiver keeps is nothing, or the beginning of this frame, so that the frame completes with the
bytes that are still to come. -/
def Receiver.begins (r : Receiver) (f : RawFrame) : Bool :=
  match r.state with
  | .hunt | .length => true
  | .body => decide (r.need = f.bytes.length) && r.bytes.isPrefixOf f.bytes
  | .check => decide (r.need = f.bytes.length) && decide (r.bytes = f.bytes)

/-- A frame arrives and completes. When the receiver keeps part of another frame, the bytes of this one are
taken one by one after it (R195). -/
def State.arrive (s : State) (f : RawFrame) (complete : State → State) : State :=
  if s.link.receiver.begins f then complete s else State.receiveAll f.onLine s

/-- R197: a request arrives. While RESETn is low no frame is received (R194). -/
def State.request (s : State) (c : Instr) (carry : State → State) : State :=
  if s.inReset then s
  else match writeRequest c with
    | none => s
    | some (code, body) => s.arrive (frameOf code body) (fun s => s.acceptFrame code carry)

/-- The gap expiry has come. -/
def State.gapDue (s : State) : Bool :=
  decide (s.link.receiver.state ≠ .hunt) && dueAt s.clock s.link.receiver.gapAt

/-- R198: the last byte of the answer in progress has been sent. -/
def State.sent (s : State) (rateHigh : Bool) : State :=
  match s.link.answer with
  | none => s
  | some _ =>
    if s.link.resetPending then (s.preparedReset .request).endReset rateHigh
    else match s.link.waiting with
      | some a => { s with link := { s.link with answer := some a, waiting := none } }
      | none => { s with link := { s.link with answer := none, busy := false } }

/-! ### The events of the line -/

/-- PARTIAL_FRAME_BYTE (R194, R195). -/
def execPartialFrameByte (c : Character) (s : State) : Host.Outcome State Fault Refusal :=
  .next (s.event (fun s => s.receiveCharacter c))

/-- FRAME_GAP_EXPIRY (R195). -/
def execFrameGapExpiry (s : State) : Host.Outcome State Fault Refusal :=
  .next (s.event (fun s => if s.gapDue then s.hunt.countBadFrame else s))

/-- FRAME_REJECTED (R196). A frame that passes is a request, which is its own command. -/
def execFrameRejected (f : RawFrame) (s : State) : Host.Outcome State Fault Refusal :=
  .next (s.event (fun s => match refusalOf f with
    | some (reason, detail) => s.arrive f (fun s => s.refuseFrame f.code reason detail)
    | none => s))

/-- FRAME_WHILE_BUSY (R198). -/
def execFrameWhileBusy (f : RawFrame) (s : State) : Host.Outcome State Fault Refusal :=
  .next (s.event (fun s => if s.link.busy then s.arrive f (fun s => s.takeFrame f) else s))

/-- ANSWER_SENT (R198, R205). -/
def execAnswerSent (rateHigh : Bool) (s : State) : Host.Outcome State Fault Refusal :=
  .next (s.event (fun s => s.sent rateHigh))

end Sys2Proof.Machine
end

