-- ==== Sys2Proof/Machine/Requests.lean ====
section
/-! DEFINITION. The requests of the catalogue (10.4): each arrives as its frame, is taken when the frame
completes (R197) and is carried out by its block. Each meaning names the operation of its block. -/

namespace Sys2Proof.Machine

/-- STATUS (R200). -/
def execStatus (s : State) : Host.Outcome State Fault Refusal :=
  .next (s.request .status carryStatus)

/-- RESET (R205). -/
def execReset (s : State) : Host.Outcome State Fault Refusal :=
  .next (s.request .reset carryReset)

/-- EVENTS_READ (R202). -/
def execEventsRead (s : State) : Host.Outcome State Fault Refusal :=
  .next (s.request .eventsRead carryEventsRead)

/-- EVENTS_ACK (R202). -/
def execEventsAck (set : BitVec 24) (s : State) : Host.Outcome State Fault Refusal :=
  .next (s.request (.eventsAck set) (carryEventsAck set))

/-- EVENTS_MASK (R203). -/
def execEventsMask (set : BitVec 24) (s : State) : Host.Outcome State Fault Refusal :=
  .next (s.request (.eventsMask set) (carryEventsMask set))

/-- EVENTS_FORCE (R203). -/
def execEventsForce (set : BitVec 24) (s : State) : Host.Outcome State Fault Refusal :=
  .next (s.request (.eventsForce set) (carryEventsForce set))

/-- COUNTERS_READ (R204). -/
def execCountersRead (start : Option Nat) (s : State) : Host.Outcome State Fault Refusal :=
  .next (s.request (.countersRead start) (carryCountersRead start))

/-- COUNTERS_CLEAR (R204). -/
def execCountersClear (s : State) : Host.Outcome State Fault Refusal :=
  .next (s.request .countersClear carryCountersClear)

/-- DIVISION_PUT (R7, R8). -/
def execDivisionPut (division : Nat) (rec : DivisionArg) (s : State) : Host.Outcome State Fault Refusal :=
  .next (s.request (.divisionPut division rec) (carryDivisionPut division rec))

/-- DIVISION_CLEAR (R9). -/
def execDivisionClear (division : Nat) (s : State) : Host.Outcome State Fault Refusal :=
  .next (s.request (.divisionClear division) (carryDivisionClear division))

/-- DIVISION_QUERY (R10). -/
def execDivisionQuery (division : Nat) (s : State) : Host.Outcome State Fault Refusal :=
  .next (s.request (.divisionQuery division) (carryDivisionQuery division))

/-- ORGAN_PUT (R11). -/
def execOrganPut (values : OrganArg) (s : State) : Host.Outcome State Fault Refusal :=
  .next (s.request (.organPut values) (carryOrganPut values))

/-- SURVEY (R16). -/
def execSurvey (s : State) : Host.Outcome State Fault Refusal :=
  .next (s.request .survey carrySurvey)

/-- TUNE_OPEN (R33, R34). -/
def execTuneOpen (tuneId length : Nat) (s : State) : Host.Outcome State Fault Refusal :=
  .next (s.request (.tuneOpen tuneId length) (carryTuneOpen tuneId length))

/-- TUNE_DATA (R35). -/
def execTuneData (bytes : List Byte) (s : State) : Host.Outcome State Fault Refusal :=
  .next (s.request (.tuneData bytes) (carryTuneData bytes))

/-- TUNE_ABORT (R44). -/
def execTuneAbort (tuneId : Nat) (s : State) : Host.Outcome State Fault Refusal :=
  .next (s.request (.tuneAbort tuneId) (carryTuneAbort tuneId))

/-- TUNE_RETIRE (R45). -/
def execTuneRetire (tuneId : Nat) (s : State) : Host.Outcome State Fault Refusal :=
  .next (s.request (.tuneRetire tuneId) (carryTuneRetire tuneId))

/-- TUNE_QUERY (R46). -/
def execTuneQuery (which : TuneRef) (s : State) : Host.Outcome State Fault Refusal :=
  .next (s.request (.tuneQuery which) (carryTuneQuery which))

/-- LOAD_RESULT (R43). -/
def execLoadResult (s : State) : Host.Outcome State Fault Refusal :=
  .next (s.request .loadResult carryLoadResult)

/-- ITEM_PUT (R54, R55). -/
def execItemPut (index : Nat) (item : ItemArg) (s : State) : Host.Outcome State Fault Refusal :=
  .next (s.request (.itemPut index item) (carryItemPut index item))

/-- ITEM_REPLACE (R56). -/
def execItemReplace (index : Nat) (item : ItemArg) (s : State) : Host.Outcome State Fault Refusal :=
  .next (s.request (.itemReplace index item) (carryItemReplace index item))

/-- ITEM_REMOVE (R57). -/
def execItemRemove (index : Nat) (s : State) : Host.Outcome State Fault Refusal :=
  .next (s.request (.itemRemove index) (carryItemRemove index))

/-- ITEM_QUERY (R58). -/
def execItemQuery (index : Nat) (s : State) : Host.Outcome State Fault Refusal :=
  .next (s.request (.itemQuery index) (carryItemQuery index))

/-- REG_PUT (R62, R63). -/
def execRegPut (index : Nat) (reg : Registration) (s : State) : Host.Outcome State Fault Refusal :=
  .next (s.request (.regPut index reg) (carryRegPut index reg))

/-- REG_QUERY (R66). -/
def execRegQuery (index : Nat) (s : State) : Host.Outcome State Fault Refusal :=
  .next (s.request (.regQuery index) (carryRegQuery index))

/-- MIC_PUT (R72, R73). -/
def execMicPut (channel : Nat) (params : MicArg) (s : State) : Host.Outcome State Fault Refusal :=
  .next (s.request (.micPut channel params) (carryMicPut channel params))

/-- MIC_QUERY (R85). -/
def execMicQuery (channel : Nat) (s : State) : Host.Outcome State Fault Refusal :=
  .next (s.request (.micQuery channel) (carryMicQuery channel))

/-- MATCH_PUT (R93). -/
def execMatchPut (mode mergeWindow : Nat) (s : State) : Host.Outcome State Fault Refusal :=
  .next (s.request (.matchPut mode mergeWindow) (carryMatchPut mode mergeWindow))

/-- TRACK_PUT (R112). -/
def execTrackPut (params : TrackArg) (s : State) : Host.Outcome State Fault Refusal :=
  .next (s.request (.trackPut params) (carryTrackPut params))

/-- TRACK_QUERY (R105, R128). -/
def execTrackQuery (part : Nat) (start : Option Nat) (s : State) : Host.Outcome State Fault Refusal :=
  .next (s.request (.trackQuery part start) (carryTrackQuery part start))

/-- PLAY (R132, R133). -/
def execPlay (index startMode : Nat) (s : State) : Host.Outcome State Fault Refusal :=
  .next (s.request (.play index startMode) (carryPlay index startMode))

/-- STOP_ITEM (R150). -/
def execStopItem (s : State) : Host.Outcome State Fault Refusal :=
  .next (s.request .stopItem carryStopItem)

/-- CANCEL_ALL (R174). -/
def execCancelAll (s : State) : Host.Outcome State Fault Refusal :=
  .next (s.request .cancelAll carryCancelAll)

/-- READER_PUT (R151). -/
def execReaderPut (horizon : Nat) (s : State) : Host.Outcome State Fault Refusal :=
  .next (s.request (.readerPut horizon) (carryReaderPut horizon))

/-- KEY_LOOKUP (R173). -/
def execKeyLookup (which : KeyRef) (s : State) : Host.Outcome State Fault Refusal :=
  .next (s.request (.keyLookup which) (carryKeyLookup which))

/-- KEY_LIST (R173). -/
def execKeyList (start : Option Nat) (s : State) : Host.Outcome State Fault Refusal :=
  .next (s.request (.keyList start) (carryKeyList start))

/-- KEY_SOUND (R170). -/
def execKeySound (division key duration : Nat) (s : State) : Host.Outcome State Fault Refusal :=
  .next (s.request (.keySound division key duration) (carryKeySound division key duration))

/-- KEY_RELEASE (R171). -/
def execKeyRelease (which : KeyRef) (s : State) : Host.Outcome State Fault Refusal :=
  .next (s.request (.keyRelease which) (carryKeyRelease which))

/-- KEY_HOLD (R172). -/
def execKeyHold (slot : Nat) (s : State) : Host.Outcome State Fault Refusal :=
  .next (s.request (.keyHold slot) (carryKeyHold slot))

/-- STOPS_APPLY (R182, R186). -/
def execStopsApply (registration : Nat) (s : State) : Host.Outcome State Fault Refusal :=
  .next (s.request (.stopsApply registration) (carryStopsApply registration))

/-- STOPS_QUERY (R188). -/
def execStopsQuery (division : Nat) (start : Option Nat) (s : State) : Host.Outcome State Fault Refusal :=
  .next (s.request (.stopsQuery division start) (carryStopsQuery division start))

/-- SWELL_PUT (R190). -/
def execSwellPut (output slew : Nat) (s : State) : Host.Outcome State Fault Refusal :=
  .next (s.request (.swellPut output slew) (carrySwellPut output slew))

end Sys2Proof.Machine
end

