-- ==== Sys2Proof/Machine/Clock.lean ====
section
/-! DEFINITION. The service clock (R1): which expiries have come, and what the step on an empty queue
does: it queues the expiries that have come, or counts one tick (log 1). -/

namespace Sys2Proof.Machine

/-- One command when its time has come. -/
def whenDue (b : Bool) (c : Instr) : List Instr := if b then [c] else []

/-- The expiries of slot i of the Keying Table that have come. -/
def slotDue (e : Env) (p : Play) (i : Nat) : List Instr :=
  whenDue (onTimeDue e p i) (.onTimeExpiry i) ++ whenDue (offTimeDue e p i) (.offTimeExpiry i) ++
  whenDue (deadlineDue e p i) (.deadlineExpiry i)

/-- The expiries of a stop that have come. -/
def stopDue (e : Env) (p : Play) (d i : Nat) : List Instr :=
  whenDue (pulseEndDue e p d i) (.pulseEndExpiry d i) ++ whenDue (timeoutDue e p d i) (.stopTimeoutExpiry d i)

/-- The expiries of a channel, of its record and its candidate, that have come. -/
def channelDue (s : State) (c : Nat) : List Instr :=
  whenDue (s.lastOnsetDue c) (.lastOnsetExpiry c) ++ whenDue (s.lastReleaseDue c) (.lastReleaseExpiry c) ++
  whenDue (candidateDue s.toEnv s.play c) (.candidateExpiry c)

/-- The expiries of the tracker that have come. -/
def trackerDue (e : Env) (p : Play) : List Instr :=
  whenDue (rebaseDue e p) .rebase ++ whenDue (fermataDue e p) .fermataExpiry ++
  whenDue (maximumEndDue e p) .maximumEndExpiry ++ whenDue (lastAnchorDue e p) .lastMatchedAnchorExpiry ++
  whenDue (referenceDue e p) .referenceTimeExpiry

/-- The expiries of the reader and its buttons that have come. -/
def readerDue (e : Env) (p : Play) : List Instr :=
  whenDue (gapEndDue e p) .gapEnd ++ whenDue (schedulingDue e p) .schedulingExpiry ++
  [Button.go, Button.hold, Button.stop].flatMap (fun b =>
    whenDue ((p.reader.cue b).due e.clock) (.cueDebounceExpiry b)) ++
  whenDue (lastCueDue e p) .lastCueExpiry

/-- Every expiry that has come at the present tick, as commands. Their order is one of those the manual
allows (log 29). -/
def State.dueEvents (s : State) : List Instr :=
  let e := s.toEnv
  let p := s.play
  whenDue s.gapDue .frameGapExpiry ++
  ((List.range 2).flatMap (fun i => whenDue (s.lossDue i) (.inputLost i))) ++
  ((List.range Config.channels).flatMap (channelDue s)) ++
  whenDue (windowDue e p) .windowCloseExpiry ++
  ((List.range p.matcher.anchors.length).flatMap (fun i =>
    whenDue (matchedTimeDue e p i) (.matchedTimeExpiry i))) ++
  trackerDue e p ++ readerDue e p ++
  ((List.range Config.keyingSlots).flatMap (slotDue e p)) ++
  (mapFrom (fun d l => (mapFrom (fun i _ => stopDue e p d i) 0 l).flatten) 0 p.stops).flatten ++
  whenDue (applyTickDue e p .start) (.applyTickExpiry .start) ++
  whenDue (applyTickDue e p .stop) (.applyTickExpiry .stop) ++
  whenDue (hasCome s.clock s.swell.nextUpdate) .swellUpdate ++
  whenDue (hasCome s.clock s.swell.nextPeriod) .swellPeriodStart ++
  whenDue e.scanDue .scanStart

/-- R1: the clock goes up by one at each tick and wraps at 2^32. -/
def State.tick (s : State) : State := { s with clock := s.clock + 1 }

/-- The step on an empty queue (log 1). The clock stands at 0 while RESETn is low. -/
def State.idle (s : State) : State :=
  if s.inReset then s
  else if s.play.atOnce ≠ [] then s.act (fun _ p => p)
  else match s.dueEvents with
    | [] => s.tick
    | c :: cs => { s with pending := c :: cs }

end Sys2Proof.Machine
end

