-- ==== Sys2Proof/Machine/Dispatch.lean ====
section
/-! DEFINITION. The command's effect on everything but the queue: one arm for each row of the table. -/

namespace Sys2Proof.Machine

def exec (i : Instr) (s : State) : Host.Outcome State Fault Refusal :=
  match i with
  | .powerReset => Sys2Proof.Machine.execPowerReset s
  | .pinReset => Sys2Proof.Machine.execPinReset s
  | .partialFrameByte c => Sys2Proof.Machine.execPartialFrameByte c s
  | .frameGapExpiry => Sys2Proof.Machine.execFrameGapExpiry s
  | .frameRejected f => Sys2Proof.Machine.execFrameRejected f s
  | .frameWhileBusy f => Sys2Proof.Machine.execFrameWhileBusy f s
  | .answerSent rateHigh => Sys2Proof.Machine.execAnswerSent rateHigh s
  | .status => Sys2Proof.Machine.execStatus s
  | .reset => Sys2Proof.Machine.execReset s
  | .divisionPut division record => Sys2Proof.Machine.execDivisionPut division record s
  | .divisionClear division => Sys2Proof.Machine.execDivisionClear division s
  | .divisionQuery division => Sys2Proof.Machine.execDivisionQuery division s
  | .organPut values => Sys2Proof.Machine.execOrganPut values s
  | .survey => Sys2Proof.Machine.execSurvey s
  | .closingSequenceComplete => Sys2Proof.Machine.execClosingSequenceComplete s
  | .resetClearingShiftComplete => Sys2Proof.Machine.execResetClearingShiftComplete s
  | .surveyReturn count => Sys2Proof.Machine.execSurveyReturn count s
  | .surveyNoReturn => Sys2Proof.Machine.execSurveyNoReturn s
  | .scanStart => Sys2Proof.Machine.execScanStart s
  | .scanComplete returned sense => Sys2Proof.Machine.execScanComplete returned sense s
  | .tuneOpen tuneId length => Sys2Proof.Machine.execTuneOpen tuneId length s
  | .tuneData bytes => Sys2Proof.Machine.execTuneData bytes s
  | .validationSuccess => Sys2Proof.Machine.execValidationSuccess s
  | .validationFailure => Sys2Proof.Machine.execValidationFailure s
  | .tuneAbort tuneId => Sys2Proof.Machine.execTuneAbort tuneId s
  | .tuneRetire tuneId => Sys2Proof.Machine.execTuneRetire tuneId s
  | .tuneQuery which => Sys2Proof.Machine.execTuneQuery which s
  | .loadResult => Sys2Proof.Machine.execLoadResult s
  | .itemPut index item => Sys2Proof.Machine.execItemPut index item s
  | .itemReplace index item => Sys2Proof.Machine.execItemReplace index item s
  | .itemRemove index => Sys2Proof.Machine.execItemRemove index s
  | .itemQuery index => Sys2Proof.Machine.execItemQuery index s
  | .regPut index reg => Sys2Proof.Machine.execRegPut index reg s
  | .regQuery index => Sys2Proof.Machine.execRegQuery index s
  | .micPut channel params => Sys2Proof.Machine.execMicPut channel params s
  | .micQuery channel => Sys2Proof.Machine.execMicQuery channel s
  | .samplePairComplete input low high => Sys2Proof.Machine.execSamplePairComplete input low high s
  | .inputLost input => Sys2Proof.Machine.execInputLost input s
  | .lastOnsetExpiry channel => Sys2Proof.Machine.execLastOnsetExpiry channel s
  | .lastReleaseExpiry channel => Sys2Proof.Machine.execLastReleaseExpiry channel s
  | .matchPut mode mergeWindow => Sys2Proof.Machine.execMatchPut mode mergeWindow s
  | .candidateExpiry channel => Sys2Proof.Machine.execCandidateExpiry channel s
  | .windowCloseExpiry => Sys2Proof.Machine.execWindowCloseExpiry s
  | .matchedTimeExpiry anchor => Sys2Proof.Machine.execMatchedTimeExpiry anchor s
  | .trackPut params => Sys2Proof.Machine.execTrackPut params s
  | .trackQuery part start => Sys2Proof.Machine.execTrackQuery part start s
  | .rebase => Sys2Proof.Machine.execRebase s
  | .fermataExpiry => Sys2Proof.Machine.execFermataExpiry s
  | .maximumEndExpiry => Sys2Proof.Machine.execMaximumEndExpiry s
  | .lastMatchedAnchorExpiry => Sys2Proof.Machine.execLastMatchedAnchorExpiry s
  | .referenceTimeExpiry => Sys2Proof.Machine.execReferenceTimeExpiry s
  | .play index startMode => Sys2Proof.Machine.execPlay index startMode s
  | .gapEnd => Sys2Proof.Machine.execGapEnd s
  | .schedulingExpiry => Sys2Proof.Machine.execSchedulingExpiry s
  | .stopItem => Sys2Proof.Machine.execStopItem s
  | .cancelAll => Sys2Proof.Machine.execCancelAll s
  | .readerPut horizon => Sys2Proof.Machine.execReaderPut horizon s
  | .cueContactClosed button => Sys2Proof.Machine.execCueContactClosed button s
  | .cueContactOpened button => Sys2Proof.Machine.execCueContactOpened button s
  | .cueDebounceExpiry button => Sys2Proof.Machine.execCueDebounceExpiry button s
  | .lastCueExpiry => Sys2Proof.Machine.execLastCueExpiry s
  | .onTimeExpiry slot => Sys2Proof.Machine.execOnTimeExpiry slot s
  | .offTimeExpiry slot => Sys2Proof.Machine.execOffTimeExpiry slot s
  | .deadlineExpiry slot => Sys2Proof.Machine.execDeadlineExpiry slot s
  | .keyLookup which => Sys2Proof.Machine.execKeyLookup which s
  | .keyList start => Sys2Proof.Machine.execKeyList start s
  | .keySound division key duration => Sys2Proof.Machine.execKeySound division key duration s
  | .keyRelease which => Sys2Proof.Machine.execKeyRelease which s
  | .keyHold slot => Sys2Proof.Machine.execKeyHold slot s
  | .stopsApply registration => Sys2Proof.Machine.execStopsApply registration s
  | .pulseEndExpiry division stop => Sys2Proof.Machine.execPulseEndExpiry division stop s
  | .stopTimeoutExpiry division stop => Sys2Proof.Machine.execStopTimeoutExpiry division stop s
  | .applyTickExpiry which => Sys2Proof.Machine.execApplyTickExpiry which s
  | .stopsQuery division start => Sys2Proof.Machine.execStopsQuery division start s
  | .swellPut output slew => Sys2Proof.Machine.execSwellPut output slew s
  | .swellUpdate => Sys2Proof.Machine.execSwellUpdate s
  | .swellPeriodStart => Sys2Proof.Machine.execSwellPeriodStart s
  | .eventsRead => Sys2Proof.Machine.execEventsRead s
  | .eventsAck named => Sys2Proof.Machine.execEventsAck named s
  | .eventsMask named => Sys2Proof.Machine.execEventsMask named s
  | .eventsForce named => Sys2Proof.Machine.execEventsForce named s
  | .countersRead start => Sys2Proof.Machine.execCountersRead start s
  | .countersClear => Sys2Proof.Machine.execCountersClear s
  | .resetEnd rateHigh => Sys2Proof.Machine.execResetEnd rateHigh s

end Sys2Proof.Machine
end

