-- ==== Sys2Proof/Safety.lean ====
section
/-! DEFINITION. The terms in which claims about the IS-40 are stated: when a request is taken, what its
answer does to the link, and the invariants that every step keeps. -/

namespace Sys2Proof.Machine

/-! ### Taking a request -/

/-- RESETn is high, the link is not busy and the receiver keeps no part of a frame, so that a request whose
frame arrives is taken (R194, R195, R197). -/
def Ready (s : State) : Prop :=
  s.inReset = false ∧ s.link.busy = false ∧ s.link.receiver.state = .hunt

/-- RESETn is high, so that events are taken. -/
def Awake (s : State) : Prop := s.inReset = false

/-- No expiry is left over to be taken at once. -/
def Settled (s : State) : Prop := s.play.atOnce = []

/-- The link with an answer in progress and the receiver in HUNT. -/
def linkWith (s : State) (a : Answer) : Link :=
  { s.link with receiver := .hunting, busy := true, answer := some a }

/-- The link with a reply in progress: the request code plus 0x80 (R197). -/
def replyLink (s : State) (code : Nat) (body : List Byte) : Link :=
  linkWith s { code := BitVec.ofNat 8 (code + 128), body := body }

/-- The link with a REJECT in progress (R197, R206). -/
def rejectLink (s : State) (code : Nat) (reason : Reason) (detail : Nat) : Link :=
  linkWith s
    { code := 255#8, body := [BitVec.ofNat 8 code, BitVec.ofNat 8 reason.code, BitVec.ofNat 8 detail] }

/-- The link whose request waits for a clearing shift before its answer (R15, R16). -/
def owedLink (s : State) (code : Nat) (body : List Byte) : Link :=
  { s.link with
    receiver := .hunting, busy := true, owed := some { code := BitVec.ofNat 8 (code + 128), body := body } }

/-! ### The line -/

/-- R195: what the receiver keeps is nothing, or the beginning of this frame, so that the frame completes with
the bytes that are still to come. -/
def FrameCompletes (r : Receiver) (f : RawFrame) : Prop :=
  r.state = .hunt ∨ r.state = .length ∨
  (r.state = .body ∧ r.need = f.bytes.length ∧ r.bytes <+: f.bytes) ∨
  (r.state = .check ∧ r.need = f.bytes.length ∧ r.bytes = f.bytes)

/-- A character of the line with its stop bit high (R194). -/
def goodCharacter (b : Byte) : Character := { data := b, stop := true }

/-- The command brings the receiver these bytes one by one: it is one character, or a frame that finds the
receiver keeping part of another (R195; log 3). -/
def ArrivesAs (s : State) (c : Instr) (bytes : List Byte) : Prop :=
  (∃ b, c = .partialFrameByte (goodCharacter b) ∧ bytes = [b]) ∨
  (∃ f, ¬ FrameCompletes s.link.receiver f ∧ bytes = f.onLine ∧
    ((∃ code body, writeRequest c = some (code, body) ∧ f = frameOf code body) ∨
      (c = .frameRejected f ∧ refusalOf f ≠ none) ∨ (c = .frameWhileBusy f ∧ s.link.busy = true)))

/-- The command has an EVENTS ACK that carries this set taken (R197): it is that request, whose frame completes on
a free link, or one of the bytes it brings completes the request's frame on a link free by then. -/
def AckTaken (s : State) (c : Instr) (set : BitVec 24) : Prop :=
  (c = .eventsAck set ∧ s.link.busy = false ∧
    ∃ code body, writeRequest c = some (code, body) ∧ FrameCompletes s.link.receiver (frameOf code body)) ∨
  (∃ before b after u, ArrivesAs s c (before ++ b :: after) ∧ u = before.foldl (fun t b => t.receive b) s ∧
    u.link.busy = false ∧ u.link.receiver.state = .check ∧
    examine { bytes := u.link.receiver.bytes, check := b } = .request (.eventsAck set))

/-! ### Expiries (R1) -/

/-- The expiry that a command stands for has come at the present tick, in the state's own fields; false of a
command that is no expiry. -/
def ExpiryCome (s : State) : Instr → Prop
  | .frameGapExpiry => s.link.receiver.state ≠ .hunt ∧
      ∃ t, s.link.receiver.gapAt = some t ∧ hasCome s.clock t = true
  | .inputLost i => i < 2 ∧ ∃ a t, s.listening.inputs[i]? = some a ∧ a.present = true ∧ a.lossAt = some t ∧
      hasCome s.clock t = true
  | .lastOnsetExpiry c => c < 4 ∧ ∃ ch o, s.listening.channels[c]? = some ch ∧ ch.lastOnset = some o ∧
      hasCome s.clock (o.time + 1048576#32) = true
  | .lastReleaseExpiry c => c < 4 ∧ ∃ ch t, s.listening.channels[c]? = some ch ∧ ch.lastRelease = some t ∧
      hasCome s.clock (t + 1048576#32) = true
  | .candidateExpiry c => c < 4 ∧ ∃ k, s.play.matcher.candidate c = some k ∧ hasCome s.clock k.expiry = true
  | .windowCloseExpiry => ∃ t, s.play.matcher.windowClose = some t ∧ hasCome s.clock t = true
  | .matchedTimeExpiry i => ∃ a t, s.play.matcher.anchors[i]? = some a ∧ a.time = some t ∧
      hasCome s.clock (t + 1048576#32) = true
  | .rebase => s.play.tracker.tracking = true ∧ ∃ r, s.play.tracker.refTime = some r ∧
      hasCome s.clock (r + 524288#32) = true
  | .fermataExpiry => s.play.tracker.tracking = true ∧ s.play.tracker.fermata ≠ none ∧
      ∃ t, s.play.tracker.fermataAt = some t ∧ hasCome s.clock t = true
  | .maximumEndExpiry => s.play.tracker.state = .holding ∧ ∃ h, s.play.tracker.hold = some h ∧
      hasCome s.clock h.maxEnd = true
  | .lastMatchedAnchorExpiry => ∃ m, s.play.tracker.lastAnchor = some m ∧
      hasCome s.clock (m.time + 1048576#32) = true
  | .referenceTimeExpiry => s.play.tracker.state = .idle ∧ ∃ r, s.play.tracker.refTime = some r ∧
      hasCome s.clock (r + 1048576#32) = true
  | .gapEnd => s.play.reader.flow = .gap ∧ ∃ t, s.play.reader.gapEnd = some t ∧ hasCome s.clock t = true
  | .schedulingExpiry => ∃ t, s.play.reader.schedAt = some t ∧ hasCome s.clock t = true
  | .cueDebounceExpiry b => ((s.play.reader.cue b).state = .closing ∨ (s.play.reader.cue b).state = .opening) ∧
      ∃ t, (s.play.reader.cue b).timer = some t ∧ hasCome s.clock (t + 20#32) = true
  | .lastCueExpiry => ∃ c, s.play.reader.lastCue = some c ∧ hasCome s.clock (c.tick + 1048576#32) = true
  | .onTimeExpiry i => i < 128 ∧ ∃ r, s.play.record i = some r ∧ r.state = .scheduled ∧
      hasCome s.clock r.onTime = true
  | .offTimeExpiry i => i < 128 ∧ ∃ r t, s.play.record i = some r ∧ r.state = .sounding ∧ r.offTime = some t ∧
      hasCome s.clock t = true
  | .deadlineExpiry i => i < 128 ∧ ∃ r t, s.play.record i = some r ∧ r.state ≠ .scheduled ∧
      r.deadline = some t ∧ hasCome s.clock t = true
  | .pulseEndExpiry d i => ∃ r t, s.play.stop d i = some r ∧ r.action = .pulsing ∧ r.pulseEnd = some t ∧
      hasCome s.clock t = true
  | .stopTimeoutExpiry d i => ∃ r t, s.play.stop d i = some r ∧ r.action = .settling ∧ r.timeout = some t ∧
      hasCome s.clock t = true
  | .applyTickExpiry .start => ∃ t, s.play.apply.startTick = some t ∧ hasCome s.clock (t + 1048576#32) = true
  | .applyTickExpiry .stop => ∃ t, s.play.apply.endTick = some t ∧ hasCome s.clock (t + 1048576#32) = true
  | .swellUpdate => hasCome s.clock s.swell.nextUpdate = true
  | .swellPeriodStart => hasCome s.clock s.swell.nextPeriod = true
  | .scanStart => (s.chain.phase = .running ∨ s.chain.phase = .fault) ∧ s.chain.scan = none ∧
      s.chain.shift = .none ∧ ∃ t, s.chain.nextScan = some t ∧ hasCome s.clock t = true
  | _ => False

/-! ### What the checks on a tune image find (R36 to R40) -/

/-- The reason of the first test that fails. -/
def firstFailing (tests : List (Bool × LoadOutcome)) : Option LoadOutcome := (tests.find? (·.1)).map (·.2)

/-- R37: the checks on the header, in their order. -/
def headerTests (tuneId : Nat) (h : Header) : List (Bool × LoadOutcome) :=
  [(decide (h.tuneId ≠ tuneId), .idMismatch),
   (decide (h.voiceCount < 1 ∨ 6 < h.voiceCount ∨ (∃ q ∈ h.priorities, 3 < q) ∨
      (∃ p ∈ [h.nominal, h.least, h.greatest], p < 64000 ∨ 512000 < p) ∨ h.eventCount < 1 ∨
      512 < h.eventCount), .headerRange),
   (decide (h.nominal < h.least ∨ h.greatest < h.nominal), .periodOrder)]

/-- R39: the checks on a note of an event, after the earlier notes of that event. -/
def noteTests (voiceCount position : Nat) (earlier : List Note) (n : Note) : List (Bool × LoadOutcome) :=
  [(decide (n.pitch < 24 ∨ 108 < n.pitch ∨ n.duration < 1 ∨ 9600 < n.duration), .noteRange),
   (decide (16777215 < position + n.duration), .endRange),
   (decide (voiceCount ≤ n.voice), .voiceRange),
   (decide (∃ m ∈ earlier, m.voice = n.voice), .duplicateVoice)]

/-- R38.4: the reason that the first failing note decides. -/
def notesFailure (voiceCount position : Nat) (notes : List Note) : Option LoadOutcome :=
  (List.range notes.length).findSome? (fun j =>
    (notes[j]?).bind (fun n => firstFailing (noteTests voiceCount position (notes.take j) n)))

/-- R38.1 to R38.4: the checks on an event before its notes, after the events before it. -/
def eventTests (before : List ScoreEvent) (ev : ScoreEvent) (noteCount : Nat) : List (Bool × LoadOutcome) :=
  [(decide (before = [] ∧ ev.position ≠ 0), .firstPosition),
   (decide (∃ b ∈ before.getLast?, ev.position ≤ b.position), .order),
   (decide (∃ b ∈ before.getLast?, b.amen = true ∧ ev.amen = false), .amenOrder),
   (decide (noteCount < 1 ∨ 8 < noteCount), .noteRange)]

/-- R38.5 to R38.7: the checks on an event after its notes. -/
def flagTests (before : List ScoreEvent) (ev : ScoreEvent) : List (Bool × LoadOutcome) :=
  [(decide (ev.amen = true ∧ ev.lineEnd = true), .flagPlace),
   (decide (ev.anchor = true ∧ 128 ≤ before.countP (fun b => decide (b.amen = ev.amen) && b.anchor)), .anchors),
   (decide (ev.amen = false ∧ ev.lineEnd = true ∧ 16 ≤ before.countP (fun b => !b.amen && b.lineEnd)), .lines)]

/-- R38: the reason why an event fails. -/
def eventFailure (voiceCount : Nat) (before : List ScoreEvent) (ev : ScoreEvent) (noteCount : Nat) :
    Option LoadOutcome :=
  match firstFailing (eventTests before ev noteCount) with
  | some o => some o
  | none => match notesFailure voiceCount ev.position ev.notes with
    | some o => some o
    | none => firstFailing (flagTests before ev)

/-- R40.1: the last verse event lacks LINE END, and supplying it would be the 17th. -/
def supplyFails (verse : List ScoreEvent) : Bool :=
  verse.getLast?.any (fun b => !b.lineEnd) && decide (16 ≤ verse.countP (·.lineEnd))

/-- The image offset after the header and these events (R32). -/
def offsetAfter (evs : List ScoreEvent) : Nat := 14 + (evs.map (fun ev => 4 + 4 * ev.notes.length)).sum

/-- R36, R38 to R40: how the walk fails at event i, when it has come so far. -/
def failureAt (get : Nat → Option Nat) (voiceCount i : Nat) : Option WalkFailure :=
  let before := readEvents get i 14
  match readNumber get 4 (offsetAfter before) with
  | none => some { outcome := .short, event := some i }
  | some n =>
    if (eventOf n).1.amen && before.all (fun b => !b.amen) && supplyFails before then
      some { outcome := .lines, event := some (i - 1) }
    else match readNotes get (eventOf n).2 (offsetAfter before + 4) with
      | none => some { outcome := .short, event := some i }
      | some notes =>
        (eventFailure voiceCount before { (eventOf n).1 with notes := notes } (eventOf n).2).map
          (fun o => { outcome := o, event := some i })

/-- R40: how the walk fails after the last event. -/
def endFailure (length : Nat) (evs : List ScoreEvent) : Option WalkFailure :=
  if evs.all (fun b => !b.amen) && supplyFails evs then
    some { outcome := .lines, event := some (evs.length - 1) }
  else if evs.all (fun b => b.amen || !b.anchor) then some { outcome := .noAnchor, event := none }
  else if offsetAfter evs < length then some { outcome := .long, event := none }
  else none

/-! ### What a new beat reference brings (R118) -/

/-- The play with a tracker's beat reference and every time that is derived from it: the valve times of the
records that are neither HELD nor of PLANNER origin, the window-close expiry, the scheduling expiry and the
fermata expiry. -/
def followed (e : Env) (tr : Tracker) (p : Play) : Play :=
  let q := { p with tracker := { tr with fermataAt := tr.fermata.map (fun (f : Fermata) => tr.timeOf f.position) } }
  { q with
    slots := retimedSlots e tr p.slots
    matcher := { p.matcher with windowClose := windowCloseFor p.matcher tr }
    reader := { p.reader with schedAt := schedulingFor e q } }

/-- The window-close, scheduling and fermata expiries that have come, as those to be taken at once. -/
def comeDue (e : Env) (p : Play) : List Due :=
  (if windowDue e p then [.windowClose] else []) ++ (if schedulingDue e p then [.scheduling] else []) ++
  (if fermataDue e p then [.fermata] else [])

/-- The state with a play, once the expiries that the play has due at once are taken. -/
def afterwards (s : State) (q : Play) : State := { s with play := settle s.toEnv settleFuel q }

/-! ### Reports and anchors (R96, R97) -/

/-- R96: a MATCHED anchor whose matched time lies within the merge window of a report's time; `x` is the
signed difference. -/
def DuplicateOf (m : Matcher) (t : Tick) (a : Anchor) (x : Int) : Prop :=
  a ∈ m.anchors ∧ a.status = .matched ∧ ∃ u, a.time = some u ∧ x = timeDiff t u ∧ -(m.merge : Int) ≤ x ∧
    x ≤ (m.merge : Int)

/-- R97: a PENDING anchor within W of whose predicted time a report's time lies; `x` is the signed
difference. -/
def CandidateFor (m : Matcher) (tr : Tracker) (t : Tick) (a : Anchor) (x : Int) : Prop :=
  a ∈ m.anchors ∧ a.status = .pending ∧ x = timeDiff t (tr.timeOf a.position) ∧
    -((tr.params.window * tr.period / 61440 : Nat) : Int) ≤ x ∧ x ≤ ((tr.params.window * tr.period / 61440 : Nat) : Int)

/-- The anchor of a relation that is nearest, the lower position on a tie (R96, R97). -/
def NearestOf (near : Anchor → Int → Prop) (a : Anchor) : Prop :=
  ∃ x, near a x ∧ ∀ b y, near b y → x.natAbs < y.natAbs ∨ (x.natAbs = y.natAbs ∧ a.position ≤ b.position)

/-- The earliest PENDING anchor (R90). -/
def EarliestPending (m : Matcher) (a : Anchor) : Prop :=
  a ∈ m.anchors ∧ a.status = .pending ∧ ∀ b ∈ m.anchors, b.status = .pending → a.position ≤ b.position

/-- R88: the anchors stand at strictly ascending positions. -/
def Rising (m : Matcher) : Prop := m.anchors.Pairwise (fun a b => a.position < b.position)

/-! ### Holds and ends -/

/-- R167: the slots at a hold start: what is held, and the re-timed SCHEDULED records. -/
def slotsAtHoldStart (e : Env) (tr : Tracker) (position : Nat) (slots : List (Option KeyRecord)) :
    List (Option KeyRecord) :=
  let held := (slots.map (Option.map (holdRecord position))).map (Option.map (deriveOn e tr))
  held.map (Option.map (fun r => if r.state = .scheduled then deriveOff e tr held r else r))

/-- R114: the tracker after an item end. -/
def trackerIdle (tr : Tracker) : Tracker :=
  { tr with
    state := .idle, hold := none, fermata := none, fermataAt := none, lastAnchor := none, matched := false,
    misses := 0, inPlay := false }

/-- R146: the play after an item end, less its cause's retirements: the tracker and the matcher are IDLE, the
reader's record is cleared, no entry is in use, and latch ITEM END is raised, with HOLD END when a hold was in
progress. -/
def playEnded (cause : EndCause) (slots : List (Option KeyRecord)) (p : Play) : Play :=
  { p with
    tracker := trackerIdle p.tracker
    matcher := { p.matcher with
      state := .idle, anchors := [], candidates := p.matcher.candidates.map (fun _ => none), windowClose := none }
    slots := slots
    reader := { p.reader with
      flow := .idle, plan := none, inHand := none, cursor := none, schedAt := none, wait := none,
      gapEnd := none, tempo := none, cause := some cause }
    inUse := none
    latches := p.latches ||| (if p.tracker.state = .holding then 4096#19 else 0#19) ||| 256#19 }

/-- R92, R114, R143: the play at a section's end, before the reader goes on: section in play is no and a hold in
progress ends with latch HOLD END, every PENDING anchor is MISSED and counted, and the reader has no cursor and no
wait. -/
def sectionEnded (p : Play) : Play :=
  { p with
    tracker := { p.tracker with
      inPlay := false, fermata := none, fermataAt := none
      hold := if p.tracker.state = .holding then none else p.tracker.hold
      state := if p.tracker.state = .holding then (if p.tracker.matched then .following else .leading)
        else p.tracker.state }
    matcher := { p.matcher with
      state := .closed
      anchors := p.matcher.anchors.map (fun a => if a.status = .pending then { a with status := .missed } else a)
      candidates := p.matcher.candidates.map (fun _ => none), windowClose := none }
    latches := if p.tracker.state = .holding then p.latches ||| 4096#19 else p.latches
    counters := p.counters.modify 2 (fun n =>
      min (n + p.matcher.anchors.countP (fun a => decide (a.status = .pending))) 65535)
    reader := { p.reader with cursor := none, wait := none, schedAt := none } }

/-- R133: the play with an item taken up: the cursor, its tune's IN_USE mark, its plan and its effective tempo,
and latch ITEM START. -/
def takenUpItem (i n : Nat) (item : Item) (tune : Tune) (p : Play) : Play :=
  { p with
    cursor := some i
    inUse := some n
    latches := p.latches ||| 64#19
    reader := { p.reader with
      plan := some ((if item.giveOut = .none then [] else [Section.giveOut]) ++
        (List.range item.verseRegs.length).map (fun k => Section.verse (k + 1)) ++
        (if item.amen = true ∧ tune.derived.amenPresent = true then [Section.amen] else []))
      inHand := none
      tempo := some (effectiveTempo item.tempo tune.header) } }

/-! ### Invariants -/

/-- The storage keeps its canonical form (log 9). -/
def MemoryOk (s : State) : Prop := s.library.mem.wf = true

/-- R27, R28: what a non-FREE entry holds. -/
def EntryOk (en : Entry) : Prop :=
  1 ≤ en.tuneId ∧ en.tuneId ≤ 65534 ∧ 22 ≤ en.length ∧ en.length ≤ 19472 ∧
  en.blocks.length = blocksFor en.length ∧ (∀ b ∈ en.blocks, b < 256) ∧ en.cursor ≤ en.length ∧
  (en.state = .loading → en.cursor < en.length) ∧ (en.state = .validating → en.cursor = en.length) ∧
  (en.state = .ready ↔ en.derived.isSome = true)

/-- R27 to R29: 48 entries, no block owned twice, no tune id held twice, one load at a time. -/
def LibraryOk (l : Library) : Prop :=
  l.entries.length = 48 ∧ (∀ en ∈ l.entries.filterMap id, EntryOk en) ∧ l.owned.Nodup ∧
  ((l.entries.filterMap id).map (·.tuneId)).Nodup ∧
  (l.entries.filterMap id).countP (fun en => decide (en.state ≠ .ready)) ≤ 1

/-- R50: what a stored item holds. -/
def ItemOk (it : Item) : Prop :=
  1 ≤ it.tuneId ∧ it.tuneId ≤ 65534 ∧ 1 ≤ it.verseRegs.length ∧ it.verseRegs.length ≤ 12 ∧
  (∀ r ∈ it.verseRegs, r ≤ 31) ∧ (∀ r, it.giveOutReg = some r → r ≤ 31) ∧
  (it.giveOut = .none ↔ it.giveOutReg = none) ∧ it.introGap ≤ 960 ∧ it.verseGap ≤ 960

/-- R52, R53: at most 24 items; the cursor marks one of them, and is present while the reader is not
IDLE. -/
def ServiceOk (s : State) : Prop :=
  s.items.length ≤ 24 ∧ (∀ it ∈ s.items, ItemOk it) ∧
  (∀ c, s.play.cursor = some c → c < s.items.length) ∧
  (s.play.reader.flow ≠ .idle → s.play.cursor.isSome = true)

/-- R47: the entry that carries the IN_USE mark is READY, and one carries it while an item is taken
up. -/
def InUseOk (s : State) : Prop :=
  (∀ n, s.play.inUse = some n → ∃ en, s.library.entry n = some en ∧ en.state = .ready) ∧
  (s.play.reader.flow ≠ .idle → s.play.inUse.isSome = true)

/-- R131: which of the reader's fields are present in which flow state. -/
def ReaderOk (rd : Reader) : Prop :=
  (rd.plan.isSome = true ↔ rd.flow ≠ .idle) ∧ (rd.gapEnd.isSome = true ↔ rd.flow = .gap) ∧
  (rd.cursor.isSome = true ↔ (rd.flow = .playing ∨ rd.flow = .ending)) ∧
  100 ≤ rd.horizon ∧ rd.horizon ≤ 1000 ∧ rd.tag ≤ 65535

/-- R107, R112: the hold record is present only in HOLDING, the misses stay at 255, and the parameters
lie in their ranges. -/
def TrackerOk (tr : Tracker) : Prop :=
  (tr.state = .holding ↔ tr.hold.isSome = true) ∧ tr.misses ≤ 255 ∧
  tr.params.phaseGain ≤ 16 ∧ tr.params.tempoGain ≤ 16 ∧ 1 ≤ tr.params.stepLimit ∧ tr.params.stepLimit ≤ 64 ∧
  1 ≤ tr.params.missLimit ∧ tr.params.missLimit ≤ 8 ∧ 24 ≤ tr.params.window ∧ tr.params.window ≤ 240 ∧
  tr.params.breath ≤ 480 ∧ 2 ≤ tr.params.holdFactor ∧ tr.params.holdFactor ≤ 16

/-- R30, R37: the header of every READY tune holds its three periods in order and in range. -/
def HeadersOk (l : Library) : Prop :=
  ∀ n en tune, l.entry n = some en → en.state = .ready → readTune l.mem en = some tune →
    64000 ≤ tune.header.least ∧ tune.header.least ≤ tune.header.nominal ∧
    tune.header.nominal ≤ tune.header.greatest ∧ tune.header.greatest ≤ 512000

/-- Bounds within which a period of an item lies (R51). -/
def BoundsOk (b : Bounds) : Prop :=
  64000 ≤ b.least ∧ b.least ≤ b.starting ∧ b.starting ≤ b.greatest ∧ b.greatest ≤ 512000

/-- R51, R107: the tracker's period is 0 or in range, and within the item's bounds while the tracker is not IDLE,
in a section and between the sections of an item; an item that is taken up has its tempo. -/
def PeriodOk (p : Play) : Prop :=
  (p.tracker.period = 0 ∨ (64000 ≤ p.tracker.period ∧ p.tracker.period ≤ 512000)) ∧
  (∀ b, p.tracker.bounds = some b → BoundsOk b) ∧ (∀ b, p.reader.tempo = some b → BoundsOk b) ∧
  (p.reader.flow ≠ .idle → p.reader.tempo.isSome = true) ∧
  ((p.tracker.state ≠ .idle ∨ p.reader.flow = .playing ∨ p.reader.flow = .ending ∨
      ∃ k, p.reader.inHand = some (k + 1)) →
    ∃ b, p.tracker.bounds = some b ∧ b.least ≤ p.tracker.period ∧ p.tracker.period ≤ b.greatest)

/-- R154: which fields of a keying record are present. -/
def RecordOk (r : KeyRecord) : Prop :=
  (r.offTime.isSome = true ↔ r.state ≠ .held) ∧ (r.deadline.isSome = true ↔ r.state ≠ .scheduled) ∧
  (r.holdKind.isSome = true ↔ r.state = .held) ∧ (r.span.isSome = true ↔ r.origin ≠ .planner) ∧
  (r.span = none → r.state ≠ .scheduled ∧ r.holdKind ≠ some .tracker)

/-- R154, R157: 128 slots, and at most one current record of a division and key. -/
def KeyingOk (p : Play) : Prop :=
  p.slots.length = 128 ∧ (∀ i r, p.record i = some r → RecordOk r) ∧
  (∀ i j a b, p.record i = some a → p.record j = some b → a.current = true → b.current = true →
    a.division = b.division → a.key = b.key → i = j)

/-- R178: a drive and a pulse end while PULSING alone, a timeout while PULSING or SETTLING. -/
def StopOk (r : StopRecord) : Prop :=
  (r.drive.isSome = true ↔ r.action = .pulsing) ∧ (r.pulseEnd.isSome = true ↔ r.action = .pulsing) ∧
  (r.timeout.isSome = true ↔ (r.action = .pulsing ∨ r.action = .settling))

/-- The stop records of a list of places, as many as the divisions have stops (R178). -/
def stopCounts (divisions : List (Option Division)) : List Nat :=
  divisions.map (fun v => (v.map (·.stops.length)).getD 0)

/-- R178: one stop record for each stop of each described division. -/
def StopsOk (s : State) : Prop :=
  s.play.stops.map List.length = stopCounts s.organ.divisions ∧
  (∀ l ∈ s.play.stops, ∀ r ∈ l, StopOk r)

/-- R204: 39 counters, none above 65,535. -/
def CountersOk (p : Play) : Prop := p.counters.length = 39 ∧ ∀ n ∈ p.counters, n ≤ 65535

/-- R13: the cause is present exactly in FAULT, the length only in RUNNING and FAULT, the misses stay
below 3 and the clean count below 50; a reset's clearing shift runs in UNSURVEYED alone (R26). -/
def ChainOk (c : Chain) : Prop :=
  (c.cause.isSome = true ↔ c.phase = .fault) ∧
  (c.length.isSome = true → c.phase = .running ∨ c.phase = .fault) ∧ c.misses ≤ 2 ∧ c.clean ≤ 49 ∧
  (∀ b, c.shift = .ofReset b → c.phase = .unsurveyed)

/-- R3, R4: a stored division record. -/
def DivisionOk (v : Division) : Prop :=
  24 ≤ v.lowest ∧ v.lowest ≤ 72 ∧ 12 ≤ v.keys ∧ v.keys ≤ 61 ∧ v.highest ≤ 127 ∧ (∀ o ∈ v.outputs, o ≤ 511) ∧
  v.stops.length ≤ 16 ∧ (∀ w ∈ v.stops, w.sense ≤ 63) ∧ v.transport ≤ 400 ∧ v.articulation ≤ 100 ∧ 10 ≤ v.repeatGap ∧ v.repeatGap ≤ 100 ∧
  (∀ x, v.swell = some x → x ≤ 1)

/-- The described divisions. -/
def Organ.described (o : Organ) : List Division := o.divisions.filterMap id

/-- R3 to R7, R11: four places, no output, sense bit or swell output used twice, the sense chain's length
as R5 gives it, and the settings in their ranges. -/
def OrganOk (o : Organ) : Prop :=
  o.divisions.length = 4 ∧ (∀ v ∈ o.described, DivisionOk v) ∧ (o.described.flatMap Division.outputs).Nodup ∧
  (o.described.flatMap (fun v => v.stops.map (·.sense))).Nodup ∧ (o.described.filterMap (·.swell)).Nodup ∧
  o.senseBoards = senseBoardsFor o.divisions ∧ o.senseBoards ≤ 4 ∧
  20 ≤ o.settings.minSpeak ∧ o.settings.minSpeak ≤ 100 ∧ 2000 ≤ o.settings.cipherGuard ∧
  o.settings.cipherGuard ≤ 60000 ∧ 20 ≤ o.settings.pulseTime ∧ o.settings.pulseTime ≤ 250 ∧
  100 ≤ o.settings.stopTimeout ∧ o.settings.stopTimeout ≤ 1000 ∧
  o.settings.levelLow ≤ o.settings.levelHigh ∧ o.settings.levelHigh ≤ 2097152

/-- R69, R74, R75: an input is PRESENT exactly when it keeps a loss expiry, and its frame is not full. -/
def InputOk (a : AudioInput) : Prop :=
  (a.present = true ↔ a.lossAt.isSome = true) ∧ a.pairs ≤ 63 ∧ a.lowSum ≤ 32768 * a.pairs ∧
  a.highSum ≤ 32768 * a.pairs

/-- R71, R75, R76: a channel's parameters and record lie in their ranges, and a QUIET channel has no
peak and no release run. -/
def ChannelOk (ch : Channel) : Prop :=
  ch.params.acousticDelay ≤ 150 ∧ 1 ≤ ch.params.rise ∧ ch.params.rise ≤ 64 ∧ ch.params.floor ≤ 2097152 ∧
  20 ≤ ch.params.refractory ∧ ch.params.refractory ≤ 400 ∧ 1 ≤ ch.params.ratio ∧ ch.params.ratio ≤ 15 ∧
  2 ≤ ch.params.confirm ∧ ch.params.confirm ≤ 50 ∧ ch.level ≤ 2097152 ∧
  (∀ x, ch.peak = some x → x ≤ 2097152) ∧ (ch.peak.isSome = true ↔ ch.voiced = true) ∧
  (ch.voiced = false → ch.run = 0) ∧ (ch.run = 0 ↔ ch.runStart = none) ∧ ch.run ≤ 50

/-- Two inputs and four channels. -/
def ListeningOk (l : Listening) : Prop :=
  l.inputs.length = 2 ∧ l.channels.length = 4 ∧ (∀ a ∈ l.inputs, InputOk a) ∧ (∀ ch ∈ l.channels, ChannelOk ch)

/-- R61, R63: the swell bounds of a stored registration are in order and in range, and no voice has more
than two routes. -/
def RegistrationOk (r : Registration) : Prop :=
  (∀ e ∈ r.divisions, e.least ≤ e.greatest ∧ e.greatest ≤ 1023) ∧ (∀ l ∈ r.voices, l.length ≤ 2)

/-- R188, R190 to R192: the two outputs' duties and slews lie in their ranges. -/
def OutputOk (o : SwellOutput) : Prop :=
  o.duty ≤ 1023 ∧ o.driven ≤ 1023 ∧ 1 ≤ o.slew ∧ o.slew ≤ 255 ∧ (∀ t, o.target = some t → t ≤ 1023)

/-- R61, R63, R190, R191: the registrations and the swell outputs. -/
def SwellOk (s : State) : Prop :=
  s.regs.length = 32 ∧ (∀ r ∈ s.regs, RegistrationOk r) ∧ s.swell.outputs.length = 2 ∧
  (∀ o ∈ s.swell.outputs, OutputOk o)

/-! ### Resets -/

/-- What a PIN or REQUEST reset keeps of the prepared work, and what it puts back (R12, R26, R49, R60, R67,
R86, R106, R130, R147, R153, R177, R191 to R193, R205). The reset's clearing shift runs (R26). Every output is driven
low until a period begins, and the first update falls at tick 100 (log 20). -/
def preparedKept (s t : State) : Prop :=
  t.organ = s.organ ∧ t.items = s.items ∧ t.play.cursor = s.play.cursor ∧ t.regs = s.regs ∧
  t.library.mem = s.library.mem ∧ t.library.entries.length = s.library.entries.length ∧
  (∀ n en, t.library.entry n = some en ↔ s.library.entry n = some en ∧ en.state = .ready) ∧
  (s.library.openLoad = none → t.library.lastLoad = s.library.lastLoad) ∧
  (∀ n en, s.library.openLoad = some n → s.library.entry n = some en →
    t.library.lastLoad = some { tuneId := en.tuneId, outcome := .reset, event := none }) ∧
  t.listening.channels = s.listening.channels.map (fun ch => Channel.quiet ch.params) ∧
  (∀ a ∈ t.listening.inputs, a.present = false) ∧
  t.play.matcher.mode = s.play.matcher.mode ∧ t.play.matcher.merge = s.play.matcher.merge ∧
  t.play.matcher.state = .idle ∧ t.play.matcher.anchors = [] ∧ t.play.matcher.behaviour = .firstArrival ∧
  t.play.tracker.params = s.play.tracker.params ∧ t.play.tracker.state = .idle ∧ t.play.tracker.period = 0 ∧
  t.play.reader.horizon = s.play.reader.horizon ∧ t.play.reader.flow = .idle ∧ t.play.reader.tag = 0 ∧
  (∀ b, t.play.reader.cue b = { state := .opening, timer := some 0 }) ∧
  t.play.inUse = none ∧ t.play.slots = List.replicate 128 none ∧
  t.play.stops.map List.length = stopCounts s.organ.divisions ∧
  (∀ l ∈ t.play.stops, ∀ r ∈ l, r = StopRecord.fresh) ∧ t.play.apply.state = .none ∧
  t.swell.outputs = s.swell.outputs.map (fun o => { o with target := none, driven := 0 }) ∧
  t.swell.nextUpdate = 100 ∧ t.swell.nextPeriod = 0 ∧
  t.chain = { phase := .unsurveyed, length := none, cause := none, verdicts := [none, none, none, none], previous := 0
              misses := 0, clean := 0, sense := none, scan := none, nextScan := none, shift := .ofReset false
              latched := s.chain.latched } ∧
  (∀ d, t.chain.verdict d = none) ∧ t.link.mask = s.link.mask ∧ t.link.busy = false ∧
  t.link.answer = none ∧ t.link.waiting = none ∧ t.link.resetPending = false ∧
  t.link.receiver.state = .hunt ∧ t.play.counters = List.replicate 39 0 ∧ t.clock = 0 ∧ t.pending = s.pending

end Sys2Proof.Machine
end

