-- ==== Sys2Proof/Certificates/Slice0/Obligations.lean ====
section
/-! DEFINITION. The statements for the provers. Each docstring names the rules a statement formalises and
the log entries of the choices it rests on. A command that is not due, or whose guard fails, has no effect
(log 2), and a statement says so beside the effect. The bodies of replies are those of Machine/Layouts.lean,
which rest on log 13, 14, 32 and 33 where R199 leaves them open; expiries due at once are taken in the order
of log 4. -/

open Sys2Proof Sys2Proof.Machine

/-! ### The step and the whole part -/

/-- A step takes the command at the front of the queue (log 1). -/
def Obligations.StepTakesFront : Prop :=
  ∀ (c : Instr) (rest : List Instr) (s : State),
    step { s with pending := c :: rest } = exec c { s with pending := rest }

/-- The step on an empty queue (log 1, R1): nothing while RESETn is low; else it takes what is still to be
taken at once, or queues the expiries that have come, or counts one tick of the service clock. An expiry is
among those queued exactly when it has come: the gap expiry 11 ticks after a frame's latest byte, an input's
loss, a stored time 2^20 ticks old, a rebase 2^19 ticks after R, a debounce 20 ticks after its timer's start,
a scan start, a swell update, a period start, and each expiry the state keeps as a time. Of a channel's last onset
the stored time is its report time, the model's deduction (log 12). -/
def Obligations.EmptyQueueStep : Prop :=
  (∀ s : State, s.pending = [] →
    step s = .next (
      if s.inReset then s
      else if s.play.atOnce ≠ [] then afterwards s s.play
      else if s.dueEvents ≠ [] then { s with pending := s.dueEvents }
      else { s with clock := s.clock + 1 })) ∧
  (∀ (s : State) (c : Instr), c ∈ s.dueEvents ↔ ExpiryCome s c) ∧
  (∀ (s : State) (p : Play), p.atOnce = [] → afterwards s p = { s with play := p })

/-- No command stops the part: each is answered by a next state, and none touches the queue (R2, R197). -/
def Obligations.EveryCommandCompletes : Prop :=
  ∀ (c : Instr) (s : State), ∃ t, exec c s = .next t ∧ t.pending = s.pending ∧
    (t.inReset = s.inReset ∨ c = .powerReset ∨ c = .pinReset ∨ ∃ r, c = .resetEnd r)

/-- While RESETn is low no character is received and no event is taken (R194, R26; log 7). -/
def Obligations.CommandsWaitForResetEnd : Prop :=
  ∀ (c : Instr) (s : State), s.inReset = true → c ≠ .powerReset → c ≠ .pinReset →
    (∀ r, c ≠ .resetEnd r) → exec c s = .next s

/-- R196, R198: the answers of frames. A request whose frame completes while the link is busy is not carried
out: REJECT BUSY with its code becomes the waiting answer. A frame that fails its examination is answered
with its reject, at once on a free link and as the waiting answer on a busy one. With an answer already
waiting the frame, failing or passing, is discarded. BAD FRAME counts each frame answered BAD_FRAME or
discarded. When an answer has been sent the waiting one is sent next, and with none the link is free. A bad
length byte on a busy link, and a frame that finds the receiver keeping part of another: ReceiverTakesBytes. -/
def Obligations.LinkAnswersFramesInTurn : Prop :=
  (∀ (c : Instr) (code : Nat) (body : List Byte) (s : State), writeRequest c = some (code, body) →
    s.inReset = false → s.link.busy = true → FrameCompletes s.link.receiver (frameOf code body) →
    (s.link.waiting = none → exec c s = .next { s with link := { s.link with
      receiver := .hunting
      waiting := some { code := 255#8, body := [BitVec.ofNat 8 code, 4#8, 0#8] } } }) ∧
    (s.link.waiting.isSome = true → exec c s = .next { s with
      link := { s.link with receiver := .hunting }
      play := { s.play with counters := s.play.counters.modify 0 (fun n => min (n + 1) 65535) } })) ∧
  (∀ (f : RawFrame) (s : State) (reason : Reason) (detail : Nat), s.inReset = false →
    FrameCompletes s.link.receiver f → refusalOf f = some (reason, detail) →
    (s.link.busy = false → exec (.frameRejected f) s = .next { s with
      link := rejectLink s f.code reason detail
      play := if reason = .badFrame then s.play.count .badFrame else s.play }) ∧
    (s.link.busy = true → s.link.waiting = none → ∀ c, c = .frameRejected f ∨ c = .frameWhileBusy f →
      exec c s = .next { s with
        link := { s.link with receiver := .hunting, waiting := some (rejectAnswer f.code reason detail) }
        play := if reason = .badFrame then s.play.count .badFrame else s.play }) ∧
    (s.link.busy = true → s.link.waiting.isSome = true → ∀ c, c = .frameRejected f ∨ c = .frameWhileBusy f →
      exec c s = .next { s with
        link := { s.link with receiver := .hunting }
        play := s.play.count .badFrame })) ∧
  ((∀ (f : RawFrame) (s : State), s.inReset = false → FrameCompletes s.link.receiver f →
    refusalOf f = none → s.link.busy = true →
    (s.link.waiting = none → exec (.frameWhileBusy f) s = .next { s with link := { s.link with
      receiver := .hunting, waiting := some (rejectAnswer f.code .busy 0) } }) ∧
    (s.link.waiting.isSome = true → exec (.frameWhileBusy f) s = .next { s with
      link := { s.link with receiver := .hunting }, play := s.play.count .badFrame })) ∧
  (∀ (f : RawFrame) (s : State),
    (refusalOf f = none → exec (.frameRejected f) s = .next s) ∧
    (s.link.busy = false → exec (.frameWhileBusy f) s = .next s)) ∧
  (∀ (s : State) (r : Bool), s.inReset = false → s.link.resetPending = false → s.link.answer.isSome = true →
    exec (.answerSent r) s = .next { s with link := match s.link.waiting with
      | some a => { s.link with answer := some a, waiting := none }
      | none => { s.link with answer := none, busy := false } }))

/-- R196, R199, R206: a well-formed request, written as the body its layout gives and put into a frame, fits
a frame and is read back as the same request, with every field. The layout of DIVISION PUT is the model's
reading of R3 and R199 (log 13), a form byte that is neither 0 nor 1 stands in a body as long as one of the
two forms (log 31), and a starting index goes with part 3 of TRACK QUERY alone (log 47). -/
def Obligations.RequestFramesReadBack : Prop :=
  ∀ (c : Instr) (code : Nat) (body : List Byte), c.wf = true → writeRequest c = some (code, body) →
    code ∈ requestCodes ∧ (frameOf code body).wf = true ∧ examine (frameOf code body) = .request c

/-- R194, R206: the layout of a character: a start bit, which is low, the data bits, least significant first, no
parity, and the stop bit; the levels of a byte that is sent, and the rate of the line. The layout of a frame,
request or answer: the start byte, N, the code, the body and the check that makes the sum of bytes 1 to N + 2
equal to 0 modulo 256; the code of a reply; the body of a REJECT with the reason codes of R197; and the code 0
in the REJECT of a bad length byte, after which no code was received. -/
def Obligations.FrameLayout : Prop :=
  (∀ (code : Byte) (body : List Byte), body.length ≤ 63 →
    ∃ check, frameOnLine (code :: body) = 0x7E#8 :: BitVec.ofNat 8 (body.length + 1) :: code :: body ++ [check] ∧
      byteSum (frameOnLine (code :: body)).tail = 0#8 ∧
      1 ≤ body.length + 1 ∧ (BitVec.ofNat 8 (body.length + 1)).toNat = body.length + 1) ∧
  (∀ (code detail : Nat) (reason : Reason), rejectAnswer code reason detail =
    { code := 0xFF#8, body := [BitVec.ofNat 8 code, BitVec.ofNat 8 reason.code, BitVec.ofNat 8 detail] }) ∧
  ([Reason.badFrame, .unknown, .badArgument, .busy, .notFound, .exists_, .inUse, .full, .inService,
    .notReady].map Reason.code = [1, 2, 3, 4, 5, 6, 7, 8, 9, 10]) ∧
  (∀ (code : Nat) (body : List Byte), replyAnswer code body = { code := BitVec.ofNat 8 (code + 0x80), body := body }) ∧
  (∀ (b : Byte) (s : State), s.inReset = false → s.link.receiver.state = .length → (b.toNat = 0 ∨ 64 < b.toNat) →
    s.link.busy = false →
    ∃ t, exec (.partialFrameByte (goodCharacter b)) s = .next t ∧
      t.link.answer = some (rejectAnswer 0 .badFrame 2)) ∧
  (∀ c : Character, c.levels.length = 10 ∧ c.levels[0]? = some false ∧ c.levels[9]? = some c.stop ∧
    (∀ i, i < 8 → c.levels[i + 1]? = some (c.data.getLsbD i)) ∧ characterOf c.levels = some c) ∧
  (∀ (l : Link) (a : Answer), l.answer = some a →
    l.sentLevels = (frameOnLine (a.code :: a.body)).flatMap (fun b => (goodCharacter b).levels)) ∧
  (∀ l : Link, l.baud = if l.fast = true then 115200 else 38400)

/-! ### Resets -/

/-- R12, R26, R49, R60, R67, R86, R106, R112, R147, R153, R189, R190, R191 to R193, R205: what a POWER reset leaves,
each cue input OPENING with its timer at 0, the clock of the reset's end. The reset's own clearing shift is the one
that runs, with no scan and no survey, until the event that completes it (SurveyAndClearingShifts). The first swell
update falls at tick 100 and the first period at tick 0 (log 20). RESETn stays low until RESET_END (log 6), and the
boards of the chest chain keep what they last latched (R26; log 10). -/
def Obligations.PowerResetValues : Prop :=
  ∀ (s : State), ∃ t, exec .powerReset s = .next t ∧ t.inReset = true ∧ t.clock = 0 ∧ t.pending = s.pending ∧
    t.organ = { divisions := [none, none, none, none], settings := ⟨30, 20000, 60, 400, 8192, 131072⟩,
                senseBoards := 0 } ∧
    t.chain.phase = .unsurveyed ∧ t.chain.length = none ∧ t.chain.cause = none ∧ t.chain.sense = none ∧
    t.chain.verdicts = [none, none, none, none] ∧ t.chain.previous = 0 ∧ t.chain.misses = 0 ∧
    t.chain.clean = 0 ∧ t.chain.latched = s.chain.latched ∧
    t.chain.shift = .ofReset false ∧ t.chain.scan = none ∧ t.chain.nextScan = none ∧
    t.swell.nextUpdate = 100 ∧ t.swell.nextPeriod = 0 ∧
    t.library.entries = List.replicate 48 none ∧ t.library.lastLoad = none ∧ t.play.inUse = none ∧
    t.items = [] ∧ t.play.cursor = none ∧
    t.regs = List.replicate 32 { divisions := List.replicate 4 ⟨0, 0, 1023⟩, voices := List.replicate 6 [] } ∧
    (∀ a ∈ t.listening.inputs, a.present = false ∧ a.pairs = 0) ∧ t.listening.inputs.length = 2 ∧
    t.listening.channels = List.replicate 4
      { params := ⟨false, 0, 24, 4096, 120, 6, 10⟩, voiced := false, level := 0, peak := none, run := 0,
        runStart := none, lastOnset := none, lastRelease := none } ∧
    t.play.matcher = { state := .idle, anchors := [], tag := none, mode := .firstArrival, merge := 60,
                       behaviour := .firstArrival, candidates := [none, none, none, none], windowClose := none } ∧
    t.play.tracker.state = .idle ∧ t.play.tracker.refTime = some 0 ∧ t.play.tracker.refPos = 0 ∧
    t.play.tracker.period = 0 ∧ t.play.tracker.params = ⟨8, 4, 20, 3, 80, 120, 6⟩ ∧
    t.play.reader.flow = .idle ∧ t.play.reader.tag = 0 ∧ t.play.reader.cause = none ∧
    t.play.reader.lastCue = none ∧ t.play.reader.horizon = 400 ∧
    (∀ b, t.play.reader.cue b = { state := .opening, timer := some 0 }) ∧
    t.play.slots = List.replicate 128 none ∧ t.play.stops = [[], [], [], []] ∧ t.play.apply.state = .none ∧
    (∀ o ∈ t.swell.outputs, o.duty = 0 ∧ o.target = none ∧ o.slew = 32) ∧ t.swell.outputs.length = 2 ∧
    t.link.mask = 0 ∧ t.link.cause = .power ∧ t.link.busy = false ∧ t.link.waiting = none ∧
    t.link.receiver.state = .hunt ∧ t.play.counters = List.replicate 39 0 ∧ t.play.latches = 0

/-- A PIN reset, and the REQUEST reset at the end of RESET's reply, keep the prepared work, put each cue input in
OPENING with its timer at the reset's end (R147, R153), start the reset's own clearing shift, with no scan and no
survey (R26), and leave each swell output driven at 0 until a period starts: of a REQUEST reset that is the model's
deduction, as is that the first swell update falls at tick 100 and the first period at tick 0 (log 20). RESET_END, after RESETn was low, samples RATE,
starts the clock at 0 and sets latch RESET alone (R194, R205; log 6). -/
def Obligations.ResetsKeepPreparedWork : Prop :=
  (∀ s : State, ∃ t, exec .pinReset s = .next t ∧ preparedKept s t ∧ t.inReset = true ∧ t.play.latches = 0 ∧
    t.link.cause = .pin) ∧
  (∀ (s : State) (r : Bool), s.inReset = false → s.link.answer.isSome = true → s.link.resetPending = true →
    ∃ t, exec (.answerSent r) s = .next t ∧ preparedKept s t ∧ t.inReset = false ∧ t.play.latches = 1 ∧
      t.link.cause = .request ∧ t.link.fast = r) ∧
  (∀ (s : State) (r : Bool), exec (.resetEnd r) s = .next (
    if s.inReset then
      { s with clock := 0, inReset := false, link := { s.link with fast := r },
               play := { s.play with latches := s.play.latches ||| 1 } }
    else s))

/-! ### The line of the Planner Link -/

/-- R194, R195, R196, R198: the receiver, byte by byte. A character with its stop bit low is discarded. HUNT looks
for 0x7E, LENGTH takes a length of 1 to 64, BODY keeps bytes until it holds N. Each byte of a frame moves the gap
expiry to 11 ticks after it; at the gap expiry the partial frame is discarded and BAD FRAME counted. A bad length
byte is answered REJECT BAD_FRAME with request code 0 and detail 2, at once, or on a busy link as the waiting
answer, and with one waiting it is discarded; each counts BAD FRAME. In CHECK the byte completes the frame, which
is refused, or taken as the request it is, as from HUNT. A request or a failing frame that finds the receiver
keeping part of another frame is taken byte by byte (log 3). -/
def Obligations.ReceiverTakesBytes : Prop :=
  (∀ (b : Byte) (s : State), exec (.partialFrameByte { data := b, stop := false }) s = .next s) ∧
  (∀ (b : Byte) (s : State), s.inReset = false →
    (s.link.receiver.state = .hunt → exec (.partialFrameByte (goodCharacter b)) s = .next (
      if b = 0x7E#8 then { s with link := { s.link with
        receiver := { state := .length, need := 0, bytes := [], gapAt := some (s.clock + 11#32) } } }
      else s)) ∧
    (s.link.receiver.state = .length → 1 ≤ b.toNat → b.toNat ≤ 64 →
      exec (.partialFrameByte (goodCharacter b)) s = .next { s with link := { s.link with
        receiver := { state := .body, need := b.toNat, bytes := [], gapAt := some (s.clock + 11#32) } } }) ∧
    (s.link.receiver.state = .length → (b.toNat = 0 ∨ 64 < b.toNat) → ∀ p : Play,
      p = { s.play with counters := s.play.counters.modify 0 (fun n => min (n + 1) 65535) } →
      (s.link.busy = false → exec (.partialFrameByte (goodCharacter b)) s = .next { s with
        link := rejectLink s 0 .badFrame 2, play := p }) ∧
      (s.link.busy = true → s.link.waiting = none →
        exec (.partialFrameByte (goodCharacter b)) s = .next { s with
          link := { s.link with receiver := .hunting, waiting := some (rejectAnswer 0 .badFrame 2) }, play := p }) ∧
      (s.link.busy = true → s.link.waiting.isSome = true →
        exec (.partialFrameByte (goodCharacter b)) s = .next { s with
          link := { s.link with receiver := .hunting }, play := p })) ∧
    (s.link.receiver.state = .body → exec (.partialFrameByte (goodCharacter b)) s = .next { s with link := { s.link with
        receiver := { s.link.receiver with
          state := if s.link.receiver.need ≤ s.link.receiver.bytes.length + 1 then .check else .body
          bytes := s.link.receiver.bytes ++ [b]
          gapAt := some (s.clock + 11#32) } } }) ∧
    (s.link.receiver.state = .check → ∀ (f : RawFrame) (u : State),
      f = { bytes := s.link.receiver.bytes, check := b } →
      u = { s with link := { s.link with receiver := .hunting } } →
      (∀ reason detail, refusalOf f = some (reason, detail) →
        exec (.partialFrameByte (goodCharacter b)) s = exec (.frameRejected f) u) ∧
      (∀ c, examine f = .request c → exec (.partialFrameByte (goodCharacter b)) s = exec c u)) ∧
    exec .frameGapExpiry s = .next (
      if s.link.receiver.state ≠ .hunt ∧ ∃ t, s.link.receiver.gapAt = some t ∧ hasCome s.clock t = true then
        { s with
          link := { s.link with receiver := .hunting }
          play := { s.play with counters := s.play.counters.modify 0 (fun n => min (n + 1) 65535) } }
      else s)) ∧
  (∀ (f : RawFrame) (s : State), s.inReset = false → ¬ FrameCompletes s.link.receiver f → ∀ c : Instr,
    ((∃ code body, writeRequest c = some (code, body) ∧ f = frameOf code body) ∨
      (c = .frameRejected f ∧ refusalOf f ≠ none) ∨ (c = .frameWhileBusy f ∧ s.link.busy = true)) →
    exec c s = .next (f.onLine.foldl (fun t b => t.receive b) s)) ∧
  (∀ (b : Byte) (s : State), s.inReset = false →
    exec (.partialFrameByte (goodCharacter b)) s = .next (s.receive b)) ∧
  (∀ f : RawFrame, f.onLine = 0x7E#8 :: BitVec.ofNat 8 f.bytes.length :: f.bytes ++ [f.check])

/-! ### Reporting -/

/-- R200, R204, R205, R209: STATUS with the bytes of its body, RESET, COUNTERS READ and COUNTERS CLEAR: what each
answers, and that it changes nothing else. A length, a cursor or a last cue that is absent reads 255. Of an absent
position or cue tick only the width is stated, and the bytes that code a state or a kind stand as the model's code
functions. -/
def Obligations.StatusResetAndCounters : Prop :=
  (∀ s : State, Ready s →
    exec .status s = .next { s with link := replyLink s 0x01 (putStatus s) } ∧ (putStatus s).length = 32 ∧
    exec .reset s = .next { s with link := { replyLink s 0x02 [] with resetPending := true } }) ∧
  (∀ s : State, ∃ pos last : List Byte, pos.length = 3 ∧ last.length = 4 ∧
    putStatus s =
      [BitVec.ofNat 8 s.link.cause.code,
       BitVec.ofNat 8 (s.chain.phase.code + 16 * FaultCause.code s.chain.cause),
       BitVec.ofNat 8 (s.chain.length.getD 255),
       BitVec.ofNat 8 (verdictByte s),
       BitVec.ofNat 8 s.play.reader.flow.code,
       BitVec.ofNat 8 (s.play.cursor.getD 255),
       BitVec.ofNat 8 (sectionByte s.play.reader.section),
       BitVec.ofNat 8 (EndCause.code s.play.reader.cause),
       BitVec.ofNat 8 s.play.tracker.state.code] ++
      putNum 3 s.play.tracker.period ++ pos ++
      [BitVec.ofNat 8 ((s.play.tracker.posAt s.clock).isSome.toNat + 2 * s.play.reader.lastCue.isSome.toNat),
       match s.play.reader.lastCue with
       | none => 255#8
       | some c =>
         BitVec.ofNat 8 ((match c.button with | .go => 1 | .hold => 2 | .stop => 3) + if c.taken then 0 else 128)] ++
      last ++
      [BitVec.ofNat 8 s.play.slotsInUse, BitVec.ofNat 8 (presenceState s.listening),
       BitVec.ofNat 8 s.play.apply.state.code, BitVec.ofNat 8 s.play.apply.faults] ++
      putNum 3 s.play.latches.toNat ++ putNum 4 s.clock.toNat ∧
    (∀ x, s.play.tracker.posAt s.clock = some x → pos = putNum 3 x) ∧
    (∀ c, s.play.reader.lastCue = some c → last = putNum 4 c.tick.toNat)) ∧
  (∀ (s : State) (start : Option Nat), Ready s →
    exec (.countersRead start) s = .next (
      if 38 < start.getD 0 then { s with link := rejectLink s 0x48 .badArgument 0 }
      else { s with
        link := replyLink s 0x48 (putNum 1 (start.getD 0) ++ putNum 1 39 ++
          ((s.play.counters.drop (start.getD 0)).take 30).flatMap (putNum 2)) }) ∧
    exec .countersClear s = .next { s with
      play := { s.play with counters := s.play.counters.map (fun _ => 0) }
      link := replyLink s 0x49 [] })

/-- R202: a latch that is set stays set over every command but a reset and one by which an EVENTS ACK that names it
is taken: the request itself, or a byte that completes its frame, also inside a frame taken byte by byte behind part
of another (R195, R197; log 3). EVENTS READ changes nothing and carries the set, the mask and the level of ATTN;
EVENTS ACK is refused when it names a bit above 18, with nothing cleared, and else clears what it names and carries
the set before and after. -/
def Obligations.LatchesStayUntilAcknowledged : Prop :=
  (∀ (c : Instr) (s t : State), exec c s = .next t → c ≠ .powerReset → c ≠ .pinReset →
    (∀ r, c = .answerSent r → s.link.resetPending = false) →
    ∀ l, s.play.latches.getLsbD l = true →
      (∀ set : BitVec 24, AckTaken s c set → set.toNat < 2 ^ 19 → set.getLsbD l = false) →
      t.play.latches.getLsbD l = true) ∧
  (∀ s : State, Ready s → exec .eventsRead s = .next { s with
    link := replyLink s 0x40
      (putNum 3 s.play.latches.toNat ++ putNum 3 s.link.mask.toNat ++ putNum 1 s.attn.toNat) }) ∧
  (∀ (s : State) (set : BitVec 24), Ready s → exec (.eventsAck set) s = .next (
    if 2 ^ 19 ≤ set.toNat then { s with link := rejectLink s 0x41 .badArgument 0 }
    else
      { s with
        play := { s.play with latches := s.play.latches &&& ~~~ (set.setWidth 19) }
        link := replyLink s 0x41 (putNum 3 s.play.latches.toNat ++
          putNum 3 (s.play.latches &&& ~~~ (set.setWidth 19)).toNat) }))

/-- R203: EVENTS MASK and EVENTS FORCE, the level of ATTN, what the resets leave of the mask, and that ATTN is
high after a reset that keeps a mask with RESET in it. -/
def Obligations.MaskForceAndAttention : Prop :=
  (∀ (s : State) (set : BitVec 24), Ready s →
    exec (.eventsMask set) s = .next (
      if 2 ^ 19 ≤ set.toNat then { s with link := rejectLink s 0x42 .badArgument 0 }
      else { s with
        link := { replyLink s 0x42 (putNum 3 (set.setWidth 19).toNat) with mask := set.setWidth 19 } }) ∧
    exec (.eventsForce set) s = .next (
      if 2 ^ 19 ≤ set.toNat then { s with link := rejectLink s 0x43 .badArgument 0 }
      else
        { s with
          play := { s.play with latches := s.play.latches ||| set.setWidth 19 }
          link := replyLink s 0x43 (putNum 3 (s.play.latches ||| set.setWidth 19).toNat) })) ∧
  (∀ s : State, s.attn = true ↔ s.inReset = false ∧ ∃ n : Nat, n < 19 ∧ s.play.latches.getLsbD n = true ∧
    s.link.mask.getLsbD n = true) ∧
  (∀ s t : State, exec .powerReset s = .next t → t.link.mask = 0) ∧
  (∀ s t : State, exec .pinReset s = .next t → t.link.mask = s.link.mask) ∧
  (∀ (s t : State) (r : Bool), exec (.answerSent r) s = .next t → t.link.mask = s.link.mask) ∧
  (∀ (s t : State) (r : Bool), s.link.mask.getLsbD 0 = true →
    ((s.inReset = true → exec (.resetEnd r) s = .next t → t.attn = true) ∧
    (s.inReset = false → s.link.answer.isSome = true → s.link.resetPending = true →
      exec (.answerSent r) s = .next t → t.attn = true)))


/-! ### Invariants -/

/-- Every invariant below holds of the machine right after reset, and so does each that the steps keep. -/
def Obligations.InvariantsHoldAtReset : Prop :=
  MemoryOk State.reset ∧ LibraryOk State.reset.library ∧ ServiceOk State.reset ∧ InUseOk State.reset ∧
  ReaderOk State.reset.play.reader ∧ TrackerOk State.reset.play.tracker ∧ KeyingOk State.reset.play ∧
  StopsOk State.reset ∧ CountersOk State.reset.play ∧ ChainOk State.reset.chain ∧ OrganOk State.reset.organ ∧
  ListeningOk State.reset.listening ∧ SwellOk State.reset ∧ HeadersOk State.reset.library ∧
  PeriodOk State.reset.play ∧ State.reset.play.latches = 1 ∧
  State.reset.clock = 0 ∧ State.reset.inReset = false ∧ State.reset.pending = []

/-- R27 to R29 (and log 9): every step keeps the directory and the block storage. -/
def Obligations.StepKeepsLibrary : Prop :=
  ∀ s t : State, MemoryOk s → LibraryOk s.library → step s = .next t → MemoryOk t ∧ LibraryOk t.library

/-- R47, R50, R52, R53: every step keeps the service list with its cursor, and the tune of the item taken up
READY. -/
def Obligations.StepKeepsServiceListAndTune : Prop :=
  (∀ s t : State, ServiceOk s → step s = .next t → ServiceOk t) ∧
  (∀ s t : State, InUseOk s → step s = .next t → InUseOk t)

/-- R51, R107, R112, R131: every step keeps the Score Reader's fields present as its flow state says, the hold
record present in HOLDING alone, and the parameters in range. While every READY tune's header holds its periods
in order and in range (R30), which the steps keep as they keep the directory, every step keeps the tracker's
period at 0 or within 64,000 to 512,000, and within the item's bounds while the tracker is not IDLE. -/
def Obligations.StepKeepsReaderAndTracker : Prop :=
  (∀ s t : State, ReaderOk s.play.reader → step s = .next t → ReaderOk t.play.reader) ∧
  (∀ s t : State, TrackerOk s.play.tracker → step s = .next t → TrackerOk t.play.tracker) ∧
  (∀ s t : State, HeadersOk s.library → ReaderOk s.play.reader → PeriodOk s.play → step s = .next t →
    PeriodOk t.play) ∧
  (∀ s t : State, MemoryOk s → LibraryOk s.library → HeadersOk s.library → step s = .next t →
    HeadersOk t.library)

/-- R154, R157: under every step each record has the fields its state and origin give it, and at most one
record of a division and key is current. -/
def Obligations.StepKeepsKeyingTable : Prop :=
  ∀ s t : State, KeyingOk s.play → step s = .next t → KeyingOk t.play

/-- R178, R183, R184: under every step there is one stop record for each stop of each described division, a
magnet is driven exactly while the stop is PULSING, and a timeout runs exactly while it is PULSING or
SETTLING. -/
def Obligations.StepKeepsStopRecords : Prop :=
 ∀ s t : State, StopsOk s → step s = .next t → StopsOk t

/-- R13, R22, R24, R204: under every step the chain's fault cause is present in FAULT alone, its length in
RUNNING and FAULT alone, and its two counts stay within what their rules give; there are always 39 counters,
and none passes 65,535. -/
def Obligations.StepKeepsChainAndCounters : Prop :=
  (∀ s t : State, ChainOk s.chain → step s = .next t → ChainOk t.chain) ∧
  (∀ s t : State, CountersOk s.play → step s = .next t → CountersOk t.play)

/-- R3 to R7, R11, R190: under every step no two divisions share an output, a sense bit or a swell output,
every stored field is in range, and the sense chain's length is that of R5: 0 boards with no stop described, and
else the boards up to the one that holds the largest sense index in use. -/
def Obligations.StepKeepsOrgan : Prop :=
  (∀ s t : State, OrganOk s.organ → step s = .next t → OrganOk t.organ) ∧
  (∀ divisions : List (Option Division),
    ((∀ v, some v ∈ divisions → v.stops = []) → senseBoardsFor divisions = 0) ∧
    (∀ v w, some v ∈ divisions → w ∈ v.stops →
      (∀ v' w', some v' ∈ divisions → w' ∈ v'.stops → w'.sense ≤ w.sense) →
      senseBoardsFor divisions = w.sense / 16 + 1))

/-- R61, R63, R69, R71, R74 to R76, R190, R191: every step keeps the channels' records, the registrations'
bounds in order, and the duties in range. -/
def Obligations.StepKeepsListeningAndSwell : Prop :=
  (∀ s t : State, ListeningOk s.listening → step s = .next t → ListeningOk t.listening) ∧
  (∀ s t : State, SwellOk s → step s = .next t → SwellOk t)

/-! ### Organ Description -/

/-- R7, R8: DIVISION PUT. Its nine tests pass exactly when the index is below 4, the Score Reader is IDLE, the
chain is not SURVEYING, every structural field lies in its range, no output, sense bit or swell output of the
record is used twice or by another described division, and the highest key and output are in range. A taken
one replaces the place's record, its tuning fields clamped or at their defaults, recomputes the sense chain's
length, forms the stop records anew, and is answered at once from a chain that is not RUNNING or FAULT; from
those it starts the closing sequence and owes its answer. The tests 1 to 3 refuse in their order, and of tests 4 to
9 the first that fails refuses BAD_ARGUMENT with its number in the low half of the detail; the high half is the
index of a stop that the test concerns, or 0 where it concerns the record itself (of several: free, log 15). A
refused DIVISION PUT changes nothing but the link. The reply's
record carries the stop count and the stop list's own count byte (log 13). -/
def Obligations.DivisionPutTestsAndStores : Prop :=
  (∀ (d k : Nat) (a : DivisionArg) (s : State) (isKey : Nat → Prop) (passes : Nat → Prop)
    (concerns : Nat → StopWiring → (StopWiring → Prop) → Prop),
    d ≤ 3 → s.play.reader.flow = .idle → s.chain.phase ≠ .surveying →
    (∀ o, isKey o ↔ a.firstOutput ≤ o ∧ o < a.firstOutput + a.keys) →
    (passes 4 ↔ 24 ≤ a.lowest ∧ a.lowest ≤ 72 ∧ 12 ≤ a.keys ∧ a.keys ≤ 61 ∧ a.firstOutput ≤ 511 ∧
      a.stopCount ≤ 16 ∧ a.stops.length = a.stopCount ∧ a.swell ≤ 2 ∧ ∀ w ∈ a.stops, w.sense ≤ 63) →
    (passes 5 ↔ a.lowest + a.keys - 1 ≤ 127 ∧ a.firstOutput + a.keys - 1 ≤ 511 ∧
      ∀ w ∈ a.stops, w.onMagnet ≤ 511 ∧ w.offMagnet ≤ 511) →
    (passes 6 ↔ (storedDivision a).outputs.Nodup) →
    (passes 7 ↔ ∀ u ∈ s.organ.others d, ∀ o ∈ (storedDivision a).outputs, o ∉ u.outputs) →
    (passes 8 ↔ (a.stops.map (·.sense)).Nodup ∧
      ∀ u ∈ s.organ.others d, ∀ w ∈ a.stops, w.sense ∉ u.stops.map (·.sense)) →
    (passes 9 ↔ ∀ u ∈ s.organ.others d, (storedDivision a).swell.isSome = true → u.swell ≠ (storedDivision a).swell) →
    (∀ w another,
      (concerns 4 w another ↔ 63 < w.sense) ∧
      (concerns 5 w another ↔ 511 < w.onMagnet ∨ 511 < w.offMagnet) ∧
      (concerns 6 w another ↔ isKey w.onMagnet ∨ isKey w.offMagnet ∨ w.onMagnet = w.offMagnet ∨
        ∃ x, another x ∧ (x.onMagnet = w.onMagnet ∨ x.onMagnet = w.offMagnet ∨ x.offMagnet = w.onMagnet ∨
          x.offMagnet = w.offMagnet)) ∧
      (concerns 7 w another ↔ ∃ u ∈ s.organ.others d, w.onMagnet ∈ u.outputs ∨ w.offMagnet ∈ u.outputs) ∧
      (concerns 8 w another ↔ (∃ u ∈ s.organ.others d, ∃ x ∈ u.stops, x.sense = w.sense) ∨
        ∃ x, another x ∧ x.sense = w.sense) ∧
      (concerns 9 w another ↔ False)) →
    4 ≤ k → k ≤ 9 → (∀ j, 4 ≤ j → j < k → passes j) → ¬ passes k →
    ∃ stop, divisionPutTest s d a = some (.badArgument, 16 * stop + k) ∧
      ((stop = 0 ∧ k ≠ 6 ∧ k ≠ 8) ∨ ∃ w, a.stops[stop]? = some w ∧
        concerns k w (fun x => ∃ j, j ≠ stop ∧ a.stops[j]? = some x))) ∧
  (∀ (d : Nat) (a : DivisionArg) (s : State), divisionPutTest s d a = none ↔
    d ≤ 3 ∧ s.play.reader.flow = .idle ∧ s.chain.phase ≠ .surveying ∧
    24 ≤ a.lowest ∧ a.lowest ≤ 72 ∧ 12 ≤ a.keys ∧ a.keys ≤ 61 ∧ a.firstOutput ≤ 511 ∧ a.stopCount ≤ 16 ∧
    a.stops.length = a.stopCount ∧ a.swell ≤ 2 ∧ (∀ w ∈ a.stops, w.sense ≤ 63) ∧
    a.lowest + a.keys - 1 ≤ 127 ∧ a.firstOutput + a.keys - 1 ≤ 511 ∧
    (∀ w ∈ a.stops, w.onMagnet ≤ 511 ∧ w.offMagnet ≤ 511) ∧ (storedDivision a).outputs.Nodup ∧
    (∀ u ∈ s.organ.others d, ∀ o ∈ (storedDivision a).outputs, o ∉ u.outputs) ∧
    (a.stops.map (·.sense)).Nodup ∧
    (∀ u ∈ s.organ.others d, ∀ w ∈ a.stops, w.sense ∉ u.stops.map (·.sense)) ∧
    (∀ u ∈ s.organ.others d, (storedDivision a).swell.isSome = true → u.swell ≠ (storedDivision a).swell)) ∧
  (∀ (d : Nat) (a : DivisionArg) (s : State), Ready s →
    (3 < d → exec (.divisionPut d a) s = .next { s with link := rejectLink s 0x08 .badArgument 1 }) ∧
    (d ≤ 3 → s.play.reader.flow ≠ .idle →
      exec (.divisionPut d a) s = .next { s with link := rejectLink s 0x08 .inService 2 }) ∧
    (d ≤ 3 → s.play.reader.flow = .idle → s.chain.phase = .surveying →
      exec (.divisionPut d a) s = .next { s with link := rejectLink s 0x08 .busy 3 }) ∧
    (∀ reason detail, divisionPutTest s d a = some (reason, detail) →
      exec (.divisionPut d a) s = .next { s with link := rejectLink s 0x08 reason detail }) ∧
    (divisionPutTest s d a = none →
      ∀ v : Division, v =
        { lowest := a.lowest, keys := a.keys, firstOutput := a.firstOutput, stops := a.stops,
          transport := match a.transport with | none => 0 | some n => max 0 (min n 400)
          articulation := match a.articulation with | none => 40 | some n => max 0 (min n 100)
          repeatGap := match a.repeatGap with | none => 30 | some n => max 10 (min n 100)
          swell := if a.swell = 0 then none else some (a.swell - 1) } →
      exec (.divisionPut d a) s = .next { s with
        organ := { s.organ with divisions := s.organ.divisions.set d (some v),
                                senseBoards := senseBoardsFor (s.organ.divisions.set d (some v)) }
        play := { s.play with stops := s.play.stops.set d (List.replicate v.stops.length StopRecord.fresh) }
        chain := if s.chain.phase = .running ∨ s.chain.phase = .fault then
          { s.chain with shift := .ofClosing false, nextScan := none } else s.chain
        link := if s.chain.phase = .running ∨ s.chain.phase = .fault then owedLink s 0x08 (putDivision v)
          else replyLink s 0x08 (putDivision v) }))

/-- R9, R11: DIVISION CLEAR and ORGAN PUT, with their refusals in order. -/
def Obligations.DivisionClearAndOrganPut : Prop :=
  (∀ (d : Nat) (s : State), Ready s → exec (.divisionClear d) s = .next (
    if 3 < d then { s with link := rejectLink s 0x09 .badArgument 0 }
    else if s.play.reader.flow ≠ .idle then { s with link := rejectLink s 0x09 .inService 0 }
    else if s.chain.phase = .surveying then { s with link := rejectLink s 0x09 .busy 0 }
    else if s.organ.division d = none then { s with link := rejectLink s 0x09 .notFound 0 }
    else { s with
      organ := { s.organ with divisions := s.organ.divisions.set d none,
                              senseBoards := senseBoardsFor (s.organ.divisions.set d none) }
      play := { s.play with stops := s.play.stops.set d [] }
      chain := if s.chain.phase = .running ∨ s.chain.phase = .fault then
          { s.chain with verdicts := s.chain.verdicts.set d none, shift := .ofClosing false, nextScan := none }
        else { s.chain with verdicts := s.chain.verdicts.set d none }
      link := if s.chain.phase = .running ∨ s.chain.phase = .fault then owedLink s 0x09 (putNum 1 d)
        else replyLink s 0x09 (putNum 1 d) })) ∧
  (∀ (a : OrganArg) (s : State), Ready s → ∀ v : Settings, v =
    { minSpeak := max 20 (min a.minSpeak 100), cipherGuard := max 2000 (min a.cipherGuard 60000),
      pulseTime := max 20 (min a.pulseTime 250), stopTimeout := max 100 (min a.stopTimeout 1000),
      levelLow := min (min a.levelLow 2097152) (min a.levelHigh 2097152),
      levelHigh := max (min a.levelLow 2097152) (min a.levelHigh 2097152) } →
    exec (.organPut a) s = .next (
      if s.play.reader.flow ≠ .idle then { s with link := rejectLink s 0x0B .inService 0 }
      else { s with organ := { s.organ with settings := v }, link := replyLink s 0x0B (putSettings v) }))

/-- R10: DIVISION QUERY is refused BAD_ARGUMENT for an index above 3 and NOT_FOUND when the place is not
described; else its reply carries the stored record with every stop entry, the compass as lowest and highest pitch,
the highest output and the verdict; it changes nothing but the link, and its body fits a frame also with 16 stops.
The model takes R4's highest output, the highest key's (log 39), and sends the stop count as the stop list's count
byte (log 13). -/
def Obligations.DivisionQueryReplies : Prop :=
  (∀ v w, (putDivisionQuery v w).length = 15 + 3 * v.stops.length) ∧
  (∀ (d : Nat) (s : State), Ready s →
    (3 < d → exec (.divisionQuery d) s = .next { s with link := rejectLink s 0x0A .badArgument 0 }) ∧
    (d ≤ 3 → s.organ.division d = none →
      exec (.divisionQuery d) s = .next { s with link := rejectLink s 0x0A .notFound 0 }) ∧
    (∀ v, d ≤ 3 → s.organ.division d = some v → exec (.divisionQuery d) s = .next { s with
      link := replyLink s 0x0A (
        putNum 1 v.lowest ++ putNum 1 v.keys ++ putNum 2 v.firstOutput ++
        (putNum 1 v.stops.length ++ v.stops.flatMap putStop) ++ putNum 2 v.transport ++ putNum 1 v.articulation ++
        putNum 1 v.repeatGap ++ putNum 1 (match v.swell with | none => 0 | some i => i + 1) ++
        putNum 1 v.lowest ++ putNum 1 (v.lowest + v.keys - 1) ++ putNum 2 (v.firstOutput + v.keys - 1) ++
        putNum 1 (match s.chain.verdict d with | none => 0 | some .present => 1 | some .absent => 2)) }))

/-! ### Chest chain -/

/-- R15 to R17, R26: SURVEY with its refusals: from RUNNING or FAULT it starts the closing sequence and owes its
answer, with no clearing shift running it enters SURVEYING, and during a reset's clearing shift its survey is
the one that starts when the shift completes (log 11). After a closing sequence every record is retired, the
moving stops are ABANDONED and the others UNREAD, an apply in flight is ABANDONED, the chain's record is
cleared, and the chain is UNSURVEYED with latch CHAIN, or SURVEYING after a SURVEY; the owed answer is sent. The
abandoned apply's record keeps its reader waiting mark (the model's deduction, log 35).
After a reset's shift a survey starts if a division is described or a SURVEY was taken. With a return at
count c the chain is RUNNING with c / 16 boards and each described division PRESENT exactly when every output
of it lies below 16 times them; with none it is in FAULT with cause NO RETURN and every described division
ABSENT; the first scan starts at this tick (R19), and latch CHAIN is raised. -/
def Obligations.SurveyAndClearingShifts : Prop :=
  (∀ s : State, Ready s → exec .survey s = .next (
    if s.play.reader.flow ≠ .idle then { s with link := rejectLink s 0x0C .inService 0 }
    else if s.chain.phase = .surveying then { s with link := rejectLink s 0x0C .busy 0 }
    else if s.chain.phase = .running ∨ s.chain.phase = .fault then
      { s with chain := { s.chain with shift := .ofClosing true, nextScan := none }, link := owedLink s 0x0C [] }
    else if s.chain.shift = .none then
      { s with chain := { s.chain with phase := .surveying }, link := replyLink s 0x0C [] }
    else { s with chain := { s.chain with shift := .ofReset true }, link := owedLink s 0x0C [] })) ∧
  ((∀ (s : State) (survey : Bool), s.inReset = false → s.chain.shift = .ofClosing survey →
    s.chain.scan = none → exec .closingSequenceComplete s = .next { s with
      chain := { phase := if survey then .surveying else .unsurveyed, length := none, cause := none,
                 verdicts := s.chain.verdicts.map (fun _ => none), previous := 0, misses := 0, clean := 0,
                 sense := none, scan := none, nextScan := none, shift := .none, latched := 0 }
      play := { s.play with
        slots := s.play.slots.map (fun _ => none)
        stops := mapFrom (fun _ l => mapFrom (fun _ r =>
          if r.action = .pulsing ∨ r.action = .settling then
            { r with drive := none, pulseEnd := none, timeout := none, action := .idle, cause := some .abandoned }
          else { r with sense := none, cause := some .unread }) 0 l) 0 s.play.stops
        apply := if s.play.apply.state = .inFlight then
            { s.play.apply with state := .abandoned, endTick := some s.clock } else s.play.apply
        latches := if survey then s.play.latches else s.play.latches ||| 2 }
      link := if s.link.owed = none then s.link
        else { s.link with answer := s.link.owed, owed := none } }) ∧
  (∀ (s : State) (taken : Bool), s.inReset = false → s.chain.shift = .ofReset taken →
    exec .resetClearingShiftComplete s = .next { s with
      chain := { s.chain with
        shift := .none, latched := 0
        phase := if taken = true ∨ ∃ v ∈ s.organ.divisions, v ≠ none then .surveying else s.chain.phase }
      link := if s.link.owed = none then s.link
        else { s.link with answer := s.link.owed, owed := none } })) ∧
  (∀ (s : State), s.inReset = false → s.chain.phase = .surveying →
    (∀ c : Nat, c ≤ 1024 → exec (.surveyReturn c) s = .next { s with
      chain := { s.chain with
        phase := .running, length := some (c / 16), cause := none, previous := 0, misses := 0, clean := 0,
        scan := none, nextScan := some s.clock, latched := 0
        verdicts := s.organ.divisions.map (fun o => o.map (fun v =>
          if ∀ x ∈ v.outputs, x < 16 * (c / 16) then Verdict.present else Verdict.absent)) }
      play := { s.play with latches := s.play.latches ||| 2 } }) ∧
    ∃ verdicts, exec .surveyNoReturn s = .next { s with
      chain := { s.chain with
        phase := .fault, length := none, cause := some .noReturn, previous := 0, misses := 0, clean := 0,
        scan := none, nextScan := some s.clock, latched := 0, verdicts := verdicts }
      play := { s.play with latches := s.play.latches ||| 2 } } ∧
      ∀ d v, s.organ.division d = some v → 12 ≤ v.keys → verdicts[d]? = some (some .absent))

/-- R19: a scan that is due starts with its image fixed, and the next starts 2 ticks after it; one that is not
due does nothing. In RUNNING the image holds exactly the key outputs of the current records and the outputs
of the magnets being driven, of the outputs the chain has; in any other state it is all off. -/
def Obligations.ScanStartsWithItsImage : Prop :=
  (∀ (s : State), s.inReset = false → exec .scanStart s = .next (
    if (s.chain.phase = .running ∨ s.chain.phase = .fault) ∧ s.chain.scan = none ∧ s.chain.shift = .none ∧
        ∃ t, s.chain.nextScan = some t ∧ hasCome s.clock t = true then
      { s with chain := { s.chain with
          scan := some (s.toEnv.image s.play), nextScan := s.chain.nextScan.map (· + 2#32) } }
    else s)) ∧
  (∀ (e : Env) (p : Play) (o : Nat), o < 1024 →
    (e.chain.phase ≠ .running → (e.image p).getLsbD o = false) ∧
    (e.chain.phase = .running → ((e.image p).getLsbD o = true ↔ o < 16 * e.chain.length.getD 64 ∧
      ((∃ i r v, p.record i = some r ∧ r.state ≠ .scheduled ∧ e.organ.division r.division = some v ∧
          o = v.firstOutput + r.key - v.lowest) ∨
       (∃ d i r v w, p.stop d i = some r ∧ e.organ.division d = some v ∧ v.stops[i]? = some w ∧
          ((r.drive = some .on ∧ o = w.onMagnet) ∨ (r.drive = some .off ∧ o = w.offMagnet)))))))

/-- R20 to R25, R179, R180, R184, R185: the end of a scan that is not the third miss in a row (of that one:
ThirdMissIsAnIntegrityFault). The image becomes the previous image and what the boards hold; the sense image is the
bits of the sense boards that exist. RUNNING: a clean scan clears the misses, and a miss adds one and counts
INTEGRITY MISS. FAULT with cause INTEGRITY: a return with a one is a miss that counts and clears the clean count; a
return of zeros after an all-off image adds one to it, and the fiftieth recovers with latch CHAIN; a return of zeros
after another image is neither. FAULT with cause NO RETURN: no comparison. Every stop record takes its sense bit,
a change by hand raises latch HANDSET, of an ABANDONED stop none by the model's deduction (log 49), and an apply in
flight whose stops are all DONE or FAULT completes (log 36). With no scan in progress nothing happens. -/
def Obligations.ScanCompletes : Prop :=
  (∀ (s : State) (ret : ChestImage) (bits : SenseImage), s.chain.scan = none →
    exec (.scanComplete ret bits) s = .next s) ∧
  (∀ (s : State) (image ret got : ChestImage) (bits read : SenseImage) (c : Chain) (p q : Play) (e : Env)
    (bit : Nat → Nat → Bool), s.inReset = false → s.chain.scan = some image →
    (s.chain.phase = .running ∨ (s.chain.phase = .fault ∧ s.chain.cause.isSome = true)) →
    got = ret &&& BitVec.ofNat 1024 (2 ^ (16 * s.chain.length.getD 64) - 1) →
    (s.chain.phase = .running → got = s.chain.previous ∨ s.chain.misses ≤ 1) →
    read = bits &&& BitVec.ofNat 64 (2 ^ (16 * s.organ.senseBoards) - 1) →
    c = { s.chain with
      sense := some read, phase := c.phase, cause := c.cause, misses := c.misses, clean := c.clean } →
    p = { s.play with counters := p.counters, latches := p.latches } →
    (s.chain.phase = .running →
      c.phase = .running ∧ c.cause = s.chain.cause ∧ c.clean = s.chain.clean ∧ p.latches = s.play.latches ∧
      (got = s.chain.previous → c.misses = 0 ∧ p.counters = s.play.counters) ∧
      (got ≠ s.chain.previous → c.misses = s.chain.misses + 1 ∧
        p.counters = s.play.counters.modify 1 (fun n => min (n + 1) 65535))) →
    (s.chain.phase = .fault → s.chain.cause = some .integrity →
      (got ≠ 0 → c.phase = .fault ∧ c.cause = some .integrity ∧ c.misses = s.chain.misses ∧ c.clean = 0 ∧
        p.latches = s.play.latches ∧ p.counters = s.play.counters.modify 1 (fun n => min (n + 1) 65535)) ∧
      (got = 0 → p.counters = s.play.counters ∧
        (s.chain.previous ≠ 0 → c.phase = .fault ∧ c.cause = some .integrity ∧ c.misses = s.chain.misses ∧
          c.clean = s.chain.clean ∧ p.latches = s.play.latches) ∧
        (s.chain.previous = 0 → s.chain.clean ≤ 48 → c.phase = .fault ∧ c.cause = some .integrity ∧
          c.misses = s.chain.misses ∧ c.clean = s.chain.clean + 1 ∧ p.latches = s.play.latches) ∧
        (s.chain.previous = 0 → 49 ≤ s.chain.clean → c.phase = .running ∧ c.cause = none ∧ c.misses = 0 ∧
          c.clean = 0 ∧ p.latches = s.play.latches ||| 2#19))) →
    (s.chain.phase = .fault → s.chain.cause = some .noReturn → c.phase = .fault ∧ c.cause = some .noReturn ∧
      c.misses = s.chain.misses ∧ c.clean = s.chain.clean ∧ p.counters = s.play.counters ∧
      p.latches = s.play.latches) →
    e = { s.toEnv with chain := c } →
    (∀ d i, bit d i = true ↔ ∃ v w, s.organ.division d = some v ∧ v.stops[i]? = some w ∧
      read.getLsbD w.sense = true) →
    q = { p.mapStops (fun d i r => senseStop (bit d i) r) with latches := q.latches } →
    ((∃ d i r, s.play.stop d i = some r ∧ r.cause = none ∧ r.sense = some (!bit d i) ∧
      (r.action = .idle ∨ r.action = .done)) → q.latches = p.latches ||| 131072#19) →
    ((¬ ∃ d i r, s.play.stop d i = some r ∧ r.cause = none ∧ r.sense = some (!bit d i) ∧
      (r.action = .idle ∨ r.action = .done)) → q.latches = p.latches) →
    ∀ (c' : Chain) (q' : Play), c' = { c with scan := none, previous := image, latched := image } →
      q' = { q with
        apply := { q.apply with state := .complete, endTick := some s.clock, readerWaiting := false }
        latches := q.latches ||| 32768#19 } →
      ((s.play.apply.state ≠ .inFlight ∨ applyDone e q = false) →
        exec (.scanComplete ret bits) s = .next { s with chain := c', play := settle e settleFuel q }) ∧
      (s.play.apply.state = .inFlight → applyDone e q = true →
        (s.play.reader.flow ≠ .preparing →
          exec (.scanComplete ret bits) s = .next { s with chain := c', play := settle e settleFuel q' }) ∧
        (s.play.reader.flow = .preparing →
          exec (.scanComplete ret bits) s =
            .next { s with chain := c', play := settle e settleFuel (beginGap e q') }))) ∧
  (∀ (e : Env) (p : Play), p.atOnce = [] → settle e settleFuel p = p)

/-- R22, R23, R187: whichever of the integrity fault and the sense read comes first (log 19), the third miss in a
row is answered by a state in FAULT with cause INTEGRITY, with the previous image and the boards taking the scan's
image, no record, an IDLE Score Reader, no apply in flight and latch CHAIN set. With no apply in flight before it,
an item in hand ends with cause FAULT, its tune is in use no more, every drive is off, and INTEGRITY MISS goes up by
one. With one in flight that has a stop still moving after its sense bit, an item in hand ends so too, the apply
record is ABANDONED at this tick and keeps its reader waiting mark, the model's deduction (log 35), every stop it was moving and that has not reached its state is UNKNOWN with cause ABANDONED and driven no
more, and the stops that are DONE, FAULT or IDLE keep those states. -/
def Obligations.ThirdMissIsAnIntegrityFault : Prop :=
  ∀ (s : State) (image ret : ChestImage) (bits : SenseImage), s.inReset = false →
    s.chain.scan = some image → s.chain.phase = .running → s.chain.misses = 2 →
    ret &&& s.chain.mask ≠ s.chain.previous → s.play.atOnce = [] → StopsOk s →
    ∃ t, exec (.scanComplete ret bits) s = .next t ∧
    t.chain = { s.chain with
      phase := .fault, cause := some .integrity, misses := 0, clean := 0, scan := none, previous := image
      latched := image, sense := some (bits &&& BitVec.ofNat 64 (2 ^ (16 * s.organ.senseBoards) - 1)) } ∧
    (∀ i, t.play.record i = none) ∧ t.play.reader.flow = .idle ∧ t.play.apply.state ≠ .inFlight ∧
    t.play.isLatched .chain = true ∧
    (s.play.apply.state ≠ .inFlight →
      (s.play.reader.flow ≠ .idle → t.play.reader.cause = some .fault ∧ t.play.tracker.state = .idle ∧
        t.play.inUse = none) ∧
      t.play.apply = s.play.apply ∧ (∀ d i r, t.play.stop d i = some r → r.drive = none) ∧
      (39 ≤ s.play.counters.length →
        t.play.counter .integrityMiss = min (s.play.counter .integrityMiss + 1) 65535)) ∧
    (∀ bit : Nat → Nat → Bool,
      (∀ d i, bit d i = s.toEnv.senseBit (bits &&& BitVec.ofNat 64 (2 ^ (16 * s.organ.senseBoards) - 1)) d i) →
      s.play.apply.state = .inFlight →
      (∃ d i r, s.play.stop d i = some r ∧ (s.toEnv.presentDivision d).isSome = true ∧ r.desired.isSome = true ∧
        (r.action = .pulsing ∨ (r.action = .settling ∧ r.desired ≠ some (bit d i)))) →
      (s.play.reader.flow ≠ .idle → t.play.reader.cause = some .fault ∧ t.play.tracker.state = .idle ∧
        t.play.inUse = none) ∧
      t.play.apply = { s.play.apply with state := .abandoned, endTick := some s.clock } ∧
      (∀ d i r, s.play.stop d i = some r →
        (∃ r', t.play.stop d i = some r') ∧
        ∀ r', t.play.stop d i = some r' →
          r'.drive = none ∧ r'.sense = some (bit d i) ∧ r'.desired = r.desired ∧
          ((r.action = .pulsing ∨ (r.action = .settling ∧ r.desired ≠ some (bit d i))) →
            r'.action = .idle ∧ r'.cause = some .abandoned ∧ r'.pulseEnd = none ∧ r'.timeout = none) ∧
          ((r.action = .done ∨ r.action = .fault ∨ r.action = .idle) → r'.action = r.action)))

/-! ### Hymn Library -/

/-- R33, R34: TUNE OPEN: its five tests in order, and the entry it makes: the lowest FREE entry takes the
lowest free blocks and is LOADING. -/
def Obligations.TuneOpenTakesAnEntry : Prop :=
  ∀ (id len : Nat) (s : State), Ready s →
    ((id = 0 ∨ 65535 ≤ id ∨ len < 22 ∨ 19472 < len) →
      exec (.tuneOpen id len) s = .next { s with link := rejectLink s 0x10 .badArgument 0 }) ∧
    (1 ≤ id → id ≤ 65534 → 22 ≤ len → len ≤ 19472 →
      ((∃ n en, s.library.entry n = some en ∧ en.tuneId = id) →
        exec (.tuneOpen id len) s = .next { s with link := rejectLink s 0x10 .exists_ 0 }) ∧
      ((∀ n en, s.library.entry n = some en → en.tuneId ≠ id) →
        (s.library.openLoad.isSome = true →
          exec (.tuneOpen id len) s = .next { s with link := rejectLink s 0x10 .busy 0 }) ∧
        (s.library.openLoad = none →
          (s.library.freeEntry = none →
            exec (.tuneOpen id len) s = .next { s with link := rejectLink s 0x10 .full 1 }) ∧
          (∀ n, s.library.freeEntry = some n →
            (s.library.freeBlocks.length < (len + 255) / 256 →
              exec (.tuneOpen id len) s = .next { s with link := rejectLink s 0x10 .full 2 }) ∧
            ((len + 255) / 256 ≤ s.library.freeBlocks.length → ∀ (en : Entry) (l : Library),
              en = { state := .loading, tuneId := id, length := len,
                     blocks := s.library.freeBlocks.take ((len + 255) / 256), cursor := 0, derived := none,
                     lineEndSupplied := false } →
              l = { s.library with entries := s.library.entries.set n (some en) } →
              exec (.tuneOpen id len) s = .next { s with
                library := l
                link := replyLink s 0x10 (putNum 1 n ++ putNum 1 ((len + 255) / 256) ++
                  putNum 1 (en.blocks.headD 0) ++ putNum 2 l.freeBlocks.length) })))))

/-- R27, R35: TUNE DATA stores its bytes in the LOADING entry from the load cursor on, raises the cursor, and
brings the entry to VALIDATING when nothing remains; with no LOADING entry it is refused NOT_FOUND, and with
more bytes than remain BAD_ARGUMENT with the remaining as detail. Byte i goes to the storage address of image
offset o + i, block (o + i) / 256 of the list at offset (o + i) mod 256, and every address that no stored
byte goes to reads as before. -/
def Obligations.TuneDataStoresItsBytes : Prop :=
  (∀ (bytes : List Byte) (s : State), Ready s →
    (s.library.loading = none →
      exec (.tuneData bytes) s = .next { s with link := rejectLink s 0x11 .notFound 0 }) ∧
    (∀ n en, s.library.loading = some (n, en) →
      (en.length - en.cursor < bytes.length →
        exec (.tuneData bytes) s = .next { s with
          link := rejectLink s 0x11 .badArgument (en.length - en.cursor) }) ∧
      (bytes.length ≤ en.length - en.cursor → ∀ en' : Entry,
        en' = { en with
          cursor := en.cursor + bytes.length
          state := if en.cursor + bytes.length < en.length then .loading else .validating } →
        exec (.tuneData bytes) s = .next { s with
          library := { s.library with
            mem := writeImage s.library.mem en en.cursor bytes
            entries := s.library.entries.set n (some en') }
          link := replyLink s 0x11 (putNum 2 en'.cursor ++ putNum 2 (en'.length - en'.cursor) ++
            putNum 1 en'.state.code) }))) ∧
  (∀ (mem : Memory) (en : Entry) (o : Nat) (bytes : List Byte), mem.wf = true → en.blocks.Nodup →
    o + bytes.length ≤ 256 * en.blocks.length →
    (writeImage mem en o bytes).wf = true ∧
    (∀ i b, bytes[i]? = some b →
      (writeImage mem en o bytes).read (en.blocks.getD ((o + i) / 256) 0 * 256 + (o + i) % 256) = b) ∧
    (∀ a, (∀ i, i < bytes.length → a ≠ en.blocks.getD ((o + i) / 256) 0 * 256 + (o + i) % 256) →
      (writeImage mem en o bytes).read a = mem.read a))

/-- R36 to R42: the end of a validation. The walk fails with the first check that fails, in the order of R36 to R40:
a header check with no event index, a check on an event, or an image that ends, with that event's index, a LINE END
that cannot be supplied with the last verse event's, and NO ANCHOR or LONG with none; with no failure it passes.
That the last verse event is inspected for its LINE END as the first amen event is met, after that event's own four
bytes and before its notes and checks, is the model's deduction (log 17). A walk that passes makes the entry READY with its derived values, writes a supplied LINE END into the image, records
outcome OK and raises LOAD DONE; one that fails frees the entry, records its reason and event and raises LOAD
FAILED. -/
def Obligations.ValidationEnds : Prop :=
  (∀ (mem : Memory) (en : Entry) (n : Nat), readNumber (imageByte mem en) 14 0 = some n →
    (∀ o, firstFailing (headerTests en.tuneId (headerOf n)) = some o →
      validate mem en = .error { outcome := o, event := none }) ∧
    (firstFailing (headerTests en.tuneId (headerOf n)) = none →
      (∀ i f, i < (headerOf n).eventCount →
        (∀ j, j < i → failureAt (imageByte mem en) (headerOf n).voiceCount j = none) →
        failureAt (imageByte mem en) (headerOf n).voiceCount i = some f → validate mem en = .error f) ∧
      ((∀ i, i < (headerOf n).eventCount → failureAt (imageByte mem en) (headerOf n).voiceCount i = none) →
        (∀ f, endFailure en.length (readEvents (imageByte mem en) (headerOf n).eventCount 14) = some f →
          validate mem en = .error f) ∧
        (endFailure en.length (readEvents (imageByte mem en) (headerOf n).eventCount 14) = none →
          ∃ d lineEnd, validate mem en = .ok (d, lineEnd))))) ∧
  (∀ (s : State) (n : Nat) (en : Entry), s.inReset = false → s.library.validating = some (n, en) →
    (∀ d lineEnd, validate s.library.mem en = .ok (d, lineEnd) →
      exec .validationSuccess s = .next { s with
        library := {
          entries := s.library.entries.set n
            (some { en with state := .ready, derived := some d, lineEndSupplied := lineEnd.isSome })
          mem := match lineEnd with
            | none => s.library.mem
            | some o => s.library.mem.write (en.address (o + 3)) (s.library.mem.read (en.address (o + 3)) ||| 32#8)
          lastLoad := some { tuneId := en.tuneId, outcome := .ok, event := none } }
        play := { s.play with latches := s.play.latches ||| 16 } } ∧
      exec .validationFailure s = .next s) ∧
    (∀ f, validate s.library.mem en = .error f →
      exec .validationFailure s = .next { s with
        library := { s.library with
          entries := s.library.entries.set n none
          lastLoad := some { tuneId := en.tuneId, outcome := f.outcome, event := f.event } }
        play := { s.play with latches := s.play.latches ||| 32 } } ∧
      exec .validationSuccess s = .next s))

/-- R30 to R32, R37 to R41: what a walk that passes has found: the header's fields lie in their ranges, and the
header names the entry's tune id; the events are as many as it says, at rising positions from 0, verse events
before amen events, each with 1 to 6 notes in range and of different voices, and the image is as long as they are;
and the derived values are those of the events, with a LINE END supplied to the last verse event exactly when it
has none. -/
def Obligations.ValidatedTunesAreInRange : Prop :=
  ∀ (mem : Memory) (en : Entry) (d : Derived) (lineEnd : Option Nat), validate mem en = .ok (d, lineEnd) →
    ∃ tune : Tune, ∃ h : Header, ∃ evs verse : List ScoreEvent, readTune mem en = some tune ∧
      h = tune.header ∧ evs = tune.events ∧ verse = evs.filter (fun ev => !ev.amen) ∧ h.tuneId = en.tuneId ∧
      1 ≤ h.voiceCount ∧ h.voiceCount ≤ 6 ∧ (∀ q ∈ h.priorities, q ≤ 3) ∧
      64000 ≤ h.least ∧ h.least ≤ h.nominal ∧ h.nominal ≤ h.greatest ∧ h.greatest ≤ 512000 ∧
      1 ≤ d.eventCount ∧ d.eventCount ≤ 512 ∧ d.eventCount = h.eventCount ∧
      1 ≤ d.verseEvents ∧ d.verseEvents ≤ d.eventCount ∧ 1 ≤ d.lines ∧ d.lines ≤ 16 ∧
      1 ≤ d.verseAnchors ∧ d.verseAnchors ≤ 128 ∧ d.amenAnchors ≤ 128 ∧ d.verseLength ≤ 16777215 ∧
      (d.amenPresent = true ↔ d.amenStart.isSome = true) ∧ (d.amenPresent = true ↔ d.amenEnd.isSome = true) ∧
      evs.length = h.eventCount ∧ (∀ ev, evs.head? = some ev → ev.position = 0) ∧
      evs.Pairwise (fun a b => a.position < b.position ∧ (a.amen = true → b.amen = true)) ∧
      (∀ ev ∈ evs, 1 ≤ ev.notes.length ∧ ev.notes.length ≤ 6 ∧ (ev.notes.map (·.voice)).Nodup ∧
        ¬ (ev.amen = true ∧ ev.lineEnd = true) ∧
        ∀ x ∈ ev.notes, 24 ≤ x.pitch ∧ x.pitch ≤ 108 ∧ 1 ≤ x.duration ∧ x.duration ≤ 9600 ∧
          ev.position + x.duration ≤ 16777215 ∧ x.voice < h.voiceCount) ∧
      en.length = 14 + (evs.map (fun ev => 4 + 4 * ev.notes.length)).sum ∧
      d.verseEvents = verse.length ∧ d.verseAnchors = verse.countP (·.anchor) ∧
      d.amenAnchors = evs.countP (fun ev => ev.amen && ev.anchor) ∧
      (lineEnd = none ↔ ∃ ev, verse.getLast? = some ev ∧ ev.lineEnd = true) ∧
      d.lines = verse.countP (·.lineEnd) + (if lineEnd = none then 0 else 1) ∧
      (∀ ev ∈ verse, ∀ x ∈ ev.notes, ev.position + x.duration ≤ d.verseLength) ∧
      (∃ ev ∈ verse, ∃ x ∈ ev.notes, d.verseLength = ev.position + x.duration) ∧
      d.amenStart = (evs.find? (·.amen)).map (·.position) ∧
      (∀ m, d.amenEnd = some m → (∀ ev ∈ evs, ev.amen = true → ∀ x ∈ ev.notes, ev.position + x.duration ≤ m) ∧
        ∃ ev ∈ evs, ev.amen = true ∧ ∃ x ∈ ev.notes, m = ev.position + x.duration)

/-- R43 to R46: TUNE ABORT and TUNE RETIRE free an entry, or are refused NOT_FOUND or IN_USE; TUNE QUERY and LOAD
RESULT change nothing but the link: what TUNE QUERY is refused with, and the entry it reads. -/
def Obligations.LibraryRequestsFreeAndRead : Prop :=
  (∀ (id : Nat) (s : State), Ready s →
    ((∀ n en, s.library.entry n = some en → en.tuneId = id → en.state = .ready) →
      exec (.tuneAbort id) s = .next { s with link := rejectLink s 0x12 .notFound 0 }) ∧
    (∀ n, s.library.find (fun en => decide (en.state ≠ .ready) && decide (en.tuneId = id)) = some n →
      ∀ l : Library, l = { s.library with
        entries := s.library.entries.set n none
        lastLoad := some { tuneId := id, outcome := .aborted, event := none } } →
      exec (.tuneAbort id) s = .next { s with
        library := l, link := replyLink s 0x12 (putNum 2 id ++ putNum 2 l.freeBlocks.length) }) ∧
    (s.library.ready id = none →
      exec (.tuneRetire id) s = .next { s with link := rejectLink s 0x13 .notFound 0 }) ∧
    (∀ n, s.library.ready id = some n →
      (s.play.inUse = some n →
        exec (.tuneRetire id) s = .next { s with link := rejectLink s 0x13 .inUse 0 }) ∧
      (s.play.inUse ≠ some n → ∀ l : Library, l = { s.library with entries := s.library.entries.set n none } →
        exec (.tuneRetire id) s = .next { s with
          library := l, link := replyLink s 0x13 (putNum 2 id ++ putNum 2 l.freeBlocks.length) }))) ∧
  (∀ (s : State), Ready s →
    exec .loadResult s = .next { s with link := replyLink s 0x15 (putLoadResult s.library.lastLoad) } ∧
    (∀ n, exec (.tuneQuery (.byEntry n)) s = .next { s with
      link := if 47 < n then rejectLink s 0x14 .badArgument 0
        else replyLink s 0x14 (putTuneQuery s.library s.play.inUse n) }) ∧
    (∀ id, (∀ n en, s.library.entry n = some en → en.tuneId ≠ id) →
      exec (.tuneQuery (.byId id)) s = .next { s with link := rejectLink s 0x14 .notFound 0 }) ∧
    (∀ n en, s.library.entry n = some en →
      (∀ m x, m < n → s.library.entry m = some x → x.tuneId ≠ en.tuneId) →
      exec (.tuneQuery (.byId en.tuneId)) s = .next { s with
        link := replyLink s 0x14 (putTuneQuery s.library s.play.inUse n) }) ∧
    (∀ form rest, exec (.tuneQuery (.badForm form rest)) s = .next { s with
      link := rejectLink s 0x14 .badArgument 0 }))

/-! ### Service list and registrations -/

/-- R50, R51, R54, R55: ITEM PUT. The fields of an item pass exactly when each structural field is in range, the
list of verse registrations is as long as the verse count, and a give-out has its registration; a refusal's
detail is one of 2 to 8. What is stored of an item: each field as given, with no give-out registration in mode NONE,
a gap clamped or at its default of 240, and the tempo override clamped, its least and greatest swapped when the
least is above; of an item that passes, every field is in range. It is inserted before the index, and the cursor
moves so that it marks the same item. The codes of the modes and end actions stand in the order of R50's table, and
an amen flag of 1 is set (log 33). -/
def Obligations.ItemPutTestsAndInserts : Prop :=
  (∀ (now : Tick) (a : ItemArg),
    (itemFieldTest now a = none ↔
      1 ≤ a.tuneId ∧ a.tuneId ≤ 65534 ∧ 1 ≤ a.verseCount ∧ a.verseCount ≤ 12 ∧ a.giveOutMode ≤ 3 ∧
      (∀ r, a.giveOutReg = some r → r ≤ 31) ∧ (∀ r ∈ a.verseRegs, r ≤ 31) ∧ a.endAction ≤ 2 ∧
      a.amenFlag ≤ 1 ∧ a.verseRegs.length = a.verseCount ∧ (a.giveOutMode ≠ 0 → a.giveOutReg.isSome = true)) ∧
    (∀ f, itemFieldTest now a = some f → 2 ≤ f ∧ f ≤ 8) ∧
    (itemFieldTest now a = none → ItemOk (storedItem a) ∧
      (∀ o, (storedItem a).tempo = some o → 64000 ≤ o.period ∧ o.period ≤ 512000 ∧
        (∀ l, o.least = some l → 64000 ≤ l ∧ l ≤ 512000) ∧ (∀ g, o.greatest = some g → 64000 ≤ g ∧ g ≤ 512000) ∧
        (∀ l g, o.least = some l → o.greatest = some g → l ≤ g)))) ∧
  (∀ (a : ItemArg) (cl gap : Nat → Nat), (∀ x, cl x = max 64000 (min x 512000)) → (∀ x, gap x = min x 960) →
    storedItem a =
      { tuneId := a.tuneId
        giveOut := if a.giveOutMode = 1 then .firstLine else if a.giveOutMode = 2 then .lastLine
          else if a.giveOutMode = 3 then .whole else .none
        giveOutReg := if a.giveOutMode = 0 then none else a.giveOutReg
        verseRegs := a.verseRegs
        amen := decide (a.amenFlag = 1)
        tempo := a.tempo.map (fun o => { period := cl o.period
                                         least := match o.least, o.greatest with
                                           | some l, some g => some (min (cl l) (cl g))
                                           | l, _ => l.map cl
                                         greatest := match o.least, o.greatest with
                                           | some l, some g => some (max (cl l) (cl g))
                                           | _, g => g.map cl })
        endAction := if a.endAction = 1 then .waitCue else if a.endAction = 2 then .continue else .halt
        introGap := (a.introGap.map gap).getD 240
        verseGap := (a.verseGap.map gap).getD 240 }) ∧
  (∀ (i : Nat) (a : ItemArg) (s : State), Ready s →
    (s.items.length < i → exec (.itemPut i a) s = .next { s with link := rejectLink s 0x18 .badArgument 1 }) ∧
    (i ≤ s.items.length → 24 ≤ s.items.length →
      exec (.itemPut i a) s = .next { s with link := rejectLink s 0x18 .full 0 }) ∧
    (i ≤ s.items.length → s.items.length < 24 →
      (∀ f, itemFieldTest s.clock a = some f →
        exec (.itemPut i a) s = .next { s with link := rejectLink s 0x18 .badArgument f }) ∧
      (itemFieldTest s.clock a = none → ∀ cursor : Option Nat,
        cursor = s.play.cursor.map (fun c => if i ≤ c then c + 1 else c) →
        exec (.itemPut i a) s = .next { s with
          items := s.items.insertIdx i (storedItem a)
          play := { s.play with cursor := cursor }
          link := replyLink s 0x18 (putItemReply i (storedItem a) (s.items.length + 1) cursor) })))

/-- R56 to R58: ITEM REPLACE puts the new contents in the item's place, and leaves the cursor and every other item.
ITEM QUERY is refused NOT_FOUND with the list length as detail, or replies with the item, the list length,
the cursor, the playing mark and whether a READY entry holds its tune; it changes nothing. ITEM REMOVE takes
the item out of the list and moves the cursor so that it marks the same item, or the one after a removed item
it marked, or nothing. -/
def Obligations.ItemReplaceQueryAndRemove : Prop :=
  ((∀ (i : Nat) (a : ItemArg) (s : State), Ready s → exec (.itemReplace i a) s = .next (
    if s.items.length ≤ i then { s with link := rejectLink s 0x19 .notFound 0 }
    else if s.play.cursor = some i ∧ s.play.reader.flow ≠ .idle then { s with link := rejectLink s 0x19 .inUse 0 }
    else match itemFieldTest s.clock a with
      | some f => { s with link := rejectLink s 0x19 .badArgument f }
      | none => { s with
        items := s.items.set i (storedItem a)
        link := replyLink s 0x19 (putItemReply i (storedItem a) s.items.length s.play.cursor) })) ∧
  (∀ (i : Nat) (s : State), Ready s →
    (s.items.length ≤ i →
      exec (.itemQuery i) s = .next { s with link := rejectLink s 0x1B .notFound s.items.length }) ∧
    (∀ it, s.items[i]? = some it → exec (.itemQuery i) s = .next { s with
      link := replyLink s 0x1B (putItemReply i it s.items.length s.play.cursor ++
        putMark (decide (s.play.cursor = some i ∧ s.play.reader.flow ≠ .idle)) ++
        putMark (s.library.ready it.tuneId).isSome) }))) ∧
  (∀ (i : Nat) (s : State), Ready s →
    (s.items.length ≤ i → exec (.itemRemove i) s = .next { s with link := rejectLink s 0x1A .notFound 0 }) ∧
    (i < s.items.length → s.play.cursor = some i → s.play.reader.flow ≠ .idle →
      exec (.itemRemove i) s = .next { s with link := rejectLink s 0x1A .inUse 0 }) ∧
    (i < s.items.length → (s.play.cursor = some i → s.play.reader.flow = .idle) →
      ∀ cursor : Option Nat,
        (∀ c, s.play.cursor = some c → i < c → cursor = some (c - 1)) →
        (∀ c, s.play.cursor = some c → c < i → cursor = some c) →
        (s.play.cursor = some i → cursor = if i + 1 < s.items.length then some i else none) →
        (s.play.cursor = none → cursor = none) →
        exec (.itemRemove i) s = .next { s with
          items := s.items.eraseIdx i
          play := { s.play with cursor := cursor }
          link := replyLink s 0x1A (putRemoveReply i (s.items.length - 1) cursor) }))

/-- R62, R63, R66: REG PUT stores the whole record with its bounds clamped and in order, or is refused; REG
QUERY changes nothing. The tests pass exactly when R62's six hold. -/
def Obligations.RegistrationsStoredAndRead : Prop :=
  ∀ (i : Nat) (r : Registration) (s : State), Ready s →
    (regPutTest s i r = none ↔
      i ≤ 31 ∧ (∀ d e, r.divisions[d]? = some e → e.drawn ≠ 0 → (s.organ.division d).isSome = true) ∧
      (∀ d e, r.divisions[d]? = some e → ∀ k, e.drawn.getLsbD k = true →
        k < ((s.organ.division d).map (·.stops.length)).getD 0) ∧
      (∀ l ∈ r.voices, l.length ≤ 2 ∧ l.Nodup ∧ ∀ x ∈ l,
        (x.shift = -12 ∨ x.shift = 0 ∨ x.shift = 12) ∧ (s.organ.division x.division).isSome = true)) ∧
    (31 < i → exec (.regPut i r) s = .next { s with link := rejectLink s 0x1C .badArgument 1 }) ∧
    (∀ reason detail, regPutTest s i r = some (reason, detail) →
      exec (.regPut i r) s = .next { s with link := rejectLink s 0x1C .badArgument detail }) ∧
    (regPutTest s i r = none → ∀ r' : Registration,
      r' = { r with divisions := r.divisions.map (fun e => { e with
        least := min (min e.least 1023) (min e.greatest 1023)
        greatest := max (min e.least 1023) (min e.greatest 1023) }) } →
      exec (.regPut i r) s = .next { s with
        regs := s.regs.set i r', link := replyLink s 0x1C (putNum 1 i ++ putRegistration r') }) ∧
    exec (.regQuery i) s = .next { s with
      link := if 31 < i then rejectLink s 0x1D .badArgument 0
        else replyLink s 0x1D (putRegQuery s.organ i (s.toEnv.registration i)
          (decide (s.toEnv.inForce s.play = some i))) }

/-! ### Listening Channels -/

/-- R72, R73, R82, R85: MIC PUT stores the seven values clamped, enabled coded on 0 and off 1; a channel that is
enabled or disabled starts QUIET with level 0, another keeps its record; the candidate of a channel that stops
being live is dropped, and the behaviour is derived again (MatchPutChangesBehaviour says what that does, and that
it does nothing when it stays the same). MIC QUERY changes nothing. -/
def Obligations.MicPutStores : Prop :=
  ∀ (c : Nat) (a : MicArg) (s : State), Ready s →
    (3 < c → exec (.micPut c a) s = .next { s with link := rejectLink s 0x20 .badArgument 0 }) ∧
    (c ≤ 3 → 1 < a.enabled → exec (.micPut c a) s = .next { s with link := rejectLink s 0x20 .badArgument 2 }) ∧
    (c ≤ 3 → a.enabled ≤ 1 → ∀ (m : MicParams) (l : Listening) (t : State),
      m = { enabled := decide (a.enabled = 0), acousticDelay := min a.acousticDelay 150,
            rise := max 1 (min a.rise 64), floor := min a.floor 2097152,
            refractory := max 20 (min a.refractory 400), ratio := max 1 (min a.ratio 15),
            confirm := max 2 (min a.confirm 50) } →
      l = { s.listening with
        channels := s.listening.channels.modify c (fun ch =>
          if ch.params.enabled = m.enabled then { ch with params := m }
          else { ch with params := m, voiced := false, level := 0, peak := none, run := 0, runStart := none }) } →
      t = State.deriveBehaviour { s with
        listening := l
        play := { s.play with matcher := { s.play.matcher with
          candidates := mapFrom (fun k x => if s.listening.live k = true ∧ l.live k = false then none else x) 0
            s.play.matcher.candidates } } } →
      exec (.micPut c a) s = .next { t with
        link := replyLink s 0x20 (putNum 1 c ++ (putNum 1 (if m.enabled then 0 else 1) ++
          (putNum 1 m.acousticDelay ++ (putNum 1 m.rise ++ (putNum 3 m.floor ++ (putNum 2 m.refractory ++
            (putNum 1 m.ratio ++ putNum 1 m.confirm))))))) }) ∧
    (s.listening.channels[c]? = none →
      exec (.micQuery c) s = .next { s with link := rejectLink s 0x21 .badArgument 0 }) ∧
    (∀ ch, s.listening.channels[c]? = some ch → ∃ present : Bool,
      (present = true ↔ ∃ inp, s.listening.inputs[c / 2]? = some inp ∧ inp.present = true) ∧
      exec (.micQuery c) s = .next { s with
        link := replyLink s 0x21 (putMicQuery ch present (s.listening.live c)
          (s.play.counter (.onsets c)) (s.play.counter (.releases c)) s.clock) })

/-- R68 to R70, R74, R78, R80 to R82, R84: the sample of a word is its first 16 bits, completed with zeros. A pair
makes its input PRESENT, moves its loss to 8 ticks on, and adds the two magnitudes to the frame being assembled; an
input that was LOST becomes PRESENT with latch MICROPHONE, and the behaviour is derived again. The 64th pair
completes the frame: both channels of the input that are enabled work it, and each report is counted in ONSETS or
RELEASES of its channel and taken by the matcher or, a release, by the tracker; of two reports the second channel's
may be taken first (log 18). At the loss of an input it is LOST with its frame discarded, both its channels are QUIET
with level 0 and keep their last onset and release, their candidates are dropped, the behaviour is derived again, and
latch MICROPHONE is raised; before the loss is due, nothing happens. MatchPutChangesBehaviour says what deriving the
behaviour does, and FrameWork what working a frame does. -/
def Obligations.PairsFramesAndLoss : Prop :=
  (∀ bits : List Bool, ∀ i : Nat, i < 16 →
    (sampleOf bits).getMsbD i = bits.getD i false) ∧
  (∀ (i : Nat) (a b : AudioInput) (low high : List Bool) (l : Listening) (s t : State) (p : Play),
    s.inReset = false → s.listening.inputs[i]? = some a →
    b = { present := true, lossAt := some (s.clock + 8#32), pairs := a.pairs + 1,
          lowSum := a.lowSum + (sampleOf low).toInt.natAbs,
          highSum := a.highSum + (sampleOf high).toInt.natAbs } →
    l = { s.listening with
      inputs := s.listening.inputs.set i
        (if b.pairs < 64 then b else { b with pairs := 0, lowSum := 0, highSum := 0 }) } →
    t = State.deriveBehaviour { s with listening := l } →
    p = { t.play with latches := if a.present then t.play.latches else t.play.latches ||| 4#19 } →
    (b.pairs < 64 → exec (.samplePairComplete i low high) s = .next { t with play := p }) ∧
    (64 ≤ b.pairs → s.listening.channels.length = 4 → i < 2 →
      ∀ (rep : Nat → Report) (take : Nat → Report → Play → Play),
      (∀ c ch, s.listening.channels[c]? = some ch → c / 2 = i → rep c =
        if ch.params.enabled = true then (workFrame ch (if c % 2 = 0 then b.lowSum else b.highSum) s.clock).2
        else .none) →
      (∀ c r q, take c r q = settle s.toEnv settleFuel (match r with
        | .none => q
        | .onset time strength => takeOnset s.toEnv c time strength
            { q with counters := q.counters.modify (15 + 6 * c) (fun n => min (n + 1) 65535) }
        | .release time => takeRelease s.toEnv time
            { q with counters := q.counters.modify (16 + 6 * c) (fun n => min (n + 1) 65535) })) →
      ∃ q : Play,
        exec (.samplePairComplete i low high) s = .next { t with
          listening := { l with
            channels := mapFrom (fun c ch =>
              if c / 2 = i ∧ ch.params.enabled = true then
                (workFrame ch (if c % 2 = 0 then b.lowSum else b.highSum) s.clock).1
              else ch) 0 s.listening.channels }
          play := q } ∧
        (q = take (2 * i + 1) (rep (2 * i + 1)) (take (2 * i) (rep (2 * i)) p) ∨
          (rep (2 * i) ≠ .none ∧ rep (2 * i + 1) ≠ .none ∧
            q = take (2 * i) (rep (2 * i)) (take (2 * i + 1) (rep (2 * i + 1)) p))))) ∧
  (∀ (i : Nat) (s : State), s.inReset = false →
    (s.lossDue i = false → exec (.inputLost i) s = .next s) ∧
    (s.lossDue i = true → ∀ l : Listening,
      l = { inputs := s.listening.inputs.set i
              { present := false, lossAt := none, pairs := 0, lowSum := 0, highSum := 0 }
            channels := mapFrom (fun c ch => if c / 2 = i then
              { ch with voiced := false, level := 0, peak := none, run := 0, runStart := none } else ch) 0
              s.listening.channels } →
      exec (.inputLost i) s = .next (State.deriveBehaviour { s with
        listening := l
        play := { s.play with
          latches := s.play.latches ||| 4
          matcher := { s.play.matcher with
            candidates := mapFrom (fun k x => if s.listening.live k = true ∧ l.live k = false then none else x) 0
              s.play.matcher.candidates } } })))

/-- R75 to R81: the work of one frame of a channel: the level moves by an eighth of the difference, rounded
down; the onset test on refractory, rise and floor; the peak and the release run of a VOICED channel; and
the release after as many frames as the confirm says. -/
def Obligations.FrameWork : Prop :=
  ∀ (ch : Channel) (sum : Nat) (now : Tick), ch.level ≤ 2097152 → sum ≤ 2097152 →
    ∃ (ch' : Channel) (rep : Report), workFrame ch sum now = (ch', rep) ∧ ch'.params = ch.params ∧
      (ch'.level : Int) = ch.level + ((sum : Int) - ch.level) / 8 ∧ ch'.level ≤ 2097152 ∧
      (((∀ o, ch.lastOnset = some o → (ch.params.refractory : Int) ≤ timeDiff now o.frame) ∧
          (16 + ch.params.rise) * ch.level ≤ 16 * sum ∧ ch.params.floor ≤ sum) →
        rep = .onset (now - 2#32 - BitVec.ofNat 32 ch.params.acousticDelay) sum ∧ ch'.voiced = true ∧
        ch'.peak = some ch'.level ∧ ch'.run = 0 ∧ ch'.runStart = none ∧ ch'.lastRelease = ch.lastRelease ∧
        ch'.lastOnset = some ⟨now, now - 2#32 - BitVec.ofNat 32 ch.params.acousticDelay, sum⟩) ∧
      (¬((∀ o, ch.lastOnset = some o → (ch.params.refractory : Int) ≤ timeDiff now o.frame) ∧
          (16 + ch.params.rise) * ch.level ≤ 16 * sum ∧ ch.params.floor ≤ sum) →
        ch'.lastOnset = ch.lastOnset ∧
        (ch.voiced = false → rep = .none ∧ ch' = { ch with level := ch'.level }) ∧
        (ch.voiced = true → ∀ peak : Nat, peak = max (ch.peak.getD 0) ch'.level →
          (¬ 16 * ch'.level ≤ ch.params.ratio * peak →
            rep = .none ∧ ch'.voiced = true ∧ ch'.peak = some peak ∧ ch'.run = 0 ∧ ch'.runStart = none ∧
            ch'.lastRelease = ch.lastRelease) ∧
          (16 * ch'.level ≤ ch.params.ratio * peak → ∀ start : Tick,
            start = (if ch.run = 0 then now else ch.runStart.getD now) →
            (ch.run + 1 < ch.params.confirm →
              rep = .none ∧ ch'.voiced = true ∧ ch'.peak = some peak ∧ ch'.run = ch.run + 1 ∧
              ch'.runStart = some start ∧ ch'.lastRelease = ch.lastRelease) ∧
            (ch.params.confirm ≤ ch.run + 1 →
              rep = .release (start - 2#32 - BitVec.ofNat 32 ch.params.acousticDelay) ∧ ch'.voiced = false ∧
              ch'.peak = none ∧ ch'.run = 0 ∧ ch'.runStart = none ∧
              ch'.lastRelease = some (start - 2#32 - BitVec.ofNat 32 ch.params.acousticDelay)))))

/-! ### Onset Matcher -/

/-- R93, R94, R101, R102: MATCH PUT stores the mode and the merge window clamped into 10 to 200, and derives the
behaviour; a change to AGREEMENT raises latch MATCH MODE, and one to FIRST-ARRIVAL raises it and takes every
candidate held as an arriving report, earliest first, also one that a hold or a section end overtakes (log 28). A candidate no report has agreed with is
dropped at its expiry and counted UNCONFIRMED on its channel. For every cause alike, MIC PUT, the loss of an input
and a regaining pair as well: deriving the behaviour changes nothing when it stays as it was, and else does what a
MATCH PUT with that change does. Which channels are live, and how many. -/
def Obligations.MatchPutChangesBehaviour : Prop :=
  (∀ (l : Listening) (c : Nat),
    (l.live c = true ↔ ∃ ch inp, l.channels[c]? = some ch ∧ ch.params.enabled = true ∧
      l.inputs[c / 2]? = some inp ∧ inp.present = true) ∧
    l.liveCount = ((List.range 4).filter l.live).length) ∧
  (∀ (s : State) (b : MatchMode),
    b = (if s.play.matcher.mode = .agreement ∧ 2 ≤ s.listening.liveCount then MatchMode.agreement
      else MatchMode.firstArrival) →
    (s.play.matcher.behaviour = b → s.deriveBehaviour = s) ∧
    (s.play.matcher.behaviour = .firstArrival → b = .agreement → s.deriveBehaviour = { s with
      play := { s.play with
        matcher := { s.play.matcher with behaviour := .agreement }, latches := s.play.latches ||| 8#19 } }) ∧
    (s.play.matcher.behaviour = .agreement → b = .firstArrival → ∀ held : List (Nat × Candidate),
      held.Pairwise (fun x y => isAfter y.2.time x.2.time = true) →
      (∀ c k, (c, k) ∈ held ↔ c < 4 ∧ s.play.matcher.candidate c = some k) →
      s.deriveBehaviour = { s with
        play := held.foldl (fun p x => settle s.toEnv settleFuel (takeFirstArrival s.toEnv x.1 x.2.time p))
          { s.play with
            matcher := { s.play.matcher with
              behaviour := .firstArrival, candidates := s.play.matcher.candidates.map (fun _ => none) }
            latches := s.play.latches ||| 8#19 } })) ∧
  (∀ (mode merge : Nat) (s : State), Ready s → 2 ≤ mode →
    exec (.matchPut mode merge) s = .next { s with link := rejectLink s 0x22 .badArgument 0 }) ∧
  (∀ (mode merge M : Nat) (md b : MatchMode) (l : Link) (s : State), Ready s →
    ((mode = 0 ∧ md = .firstArrival) ∨ (mode = 1 ∧ md = .agreement)) → M = max 10 (min merge 200) →
    b = (if md = .agreement ∧ 2 ≤ s.listening.liveCount then MatchMode.agreement else MatchMode.firstArrival) →
    l = replyLink s 0x22 (putNum 1 mode ++ putNum 1 M ++ putNum 1 (if b = .agreement then 1 else 0)) →
    (s.play.matcher.behaviour = b → exec (.matchPut mode merge) s = .next { s with
      play := { s.play with matcher := { s.play.matcher with mode := md, merge := M } }
      link := l }) ∧
    (s.play.matcher.behaviour = .firstArrival → b = .agreement →
      exec (.matchPut mode merge) s = .next { s with
        play := { s.play with
          matcher := { s.play.matcher with mode := md, merge := M, behaviour := .agreement }
          latches := s.play.latches ||| 8#19 }
        link := l }) ∧
    (s.play.matcher.behaviour = .agreement → b = .firstArrival → ∀ held : List (Nat × Candidate),
      held.Pairwise (fun x y => isAfter y.2.time x.2.time = true) →
      (∀ c k, (c, k) ∈ held ↔ c < 4 ∧ s.play.matcher.candidate c = some k) →
      exec (.matchPut mode merge) s = .next { s with
        play := held.foldl (fun p x => settle s.toEnv settleFuel (takeFirstArrival s.toEnv x.1 x.2.time p))
          { s.play with
            matcher := { s.play.matcher with
              mode := md, merge := M, behaviour := .firstArrival
              candidates := s.play.matcher.candidates.map (fun _ => none) }
            latches := s.play.latches ||| 8#19 }
        link := l })) ∧
  (∀ (c : Nat) (s : State), Awake s → Settled s →
    ((∀ k, s.play.matcher.candidate c = some k → hasCome s.clock k.expiry = false) →
      exec (.candidateExpiry c) s = .next s) ∧
    (∀ k, s.play.matcher.candidate c = some k → hasCome s.clock k.expiry = true →
      exec (.candidateExpiry c) s = .next { s with play := { s.play with
        matcher := { s.play.matcher with candidates := s.play.matcher.candidates.set c none }
        counters := s.play.counters.modify (20 + 6 * c) (fun n => min (n + 1) 65535) } }))

/-- R95 to R98: a report under FIRST-ARRIVAL. While the matcher cannot match it is stray. A report within M of a
matched time is a duplicate of the nearest, or stray on that anchor's own channel. Another is matched to the
nearest PENDING anchor within W of its predicted time: the PENDING anchors below it become MISSED, it becomes
MATCHED, the tracker takes the correction and the window-close expiry is derived again. With no such anchor
it is stray. -/
def Obligations.ReportsUnderFirstArrival : Prop :=
  ∀ (e : Env) (c strength : Nat) (t : Tick) (p : Play), p.matcher.behaviour = .firstArrival →
    ((p.matcher.state ≠ .opened ∨ p.tracker.tracking = false) →
      takeOnset e c t strength p = p.count (.stray c)) ∧
    (p.matcher.state = .opened → p.tracker.tracking = true → Rising p.matcher →
      (∀ a, NearestOf (DuplicateOf p.matcher t) a →
        takeOnset e c t strength p = p.count (if a.channel = some c then .stray c else .duplicate c)) ∧
      ((∀ a x, ¬ DuplicateOf p.matcher t a x) →
        ((∀ a x, ¬ CandidateFor p.matcher p.tracker t a x) →
          takeOnset e c t strength p = p.count (.stray c)) ∧
        (∀ a, NearestOf (CandidateFor p.matcher p.tracker t) a → ∀ passed : Nat,
          passed = p.matcher.anchors.countP
            (fun b => decide (b.status = .pending) && decide (b.position < a.position)) →
          takeOnset e c t strength p =
            deriveWindow e (takeCorrection e a.position t p.matcher.tag { p with
              matcher := { p.matcher with anchors := p.matcher.anchors.map (fun b =>
                if b.position = a.position then { b with status := .matched, time := some t, channel := some c }
                else if b.status = .pending ∧ b.position < a.position then { b with status := .missed } else b) }
              counters := (p.counters.modify 2 (fun n => min (n + passed) 65535)).modify (17 + 6 * c)
                (fun n => min (n + 1) 65535) }))))

/-- R95, R99 to R101: a report under AGREEMENT. It discards its own channel's candidate, UNCONFIRMED. With no
other channel's candidate within M it becomes a candidate until M ticks after its time, or is discarded
UNCONFIRMED when that has already come. Else it agrees with the nearest, the earlier of two as near: of the
pair the earlier report, or of two at one time the stronger, or of two as strong the one held, is tested as a
report under FIRST-ARRIVAL, and the other counts DUPLICATE. -/
def Obligations.ReportsUnderAgreement : Prop :=
  ∀ (e : Env) (c strength : Nat) (t : Tick) (p q : Play), p.matcher.behaviour = .agreement →
    ((p.matcher.state ≠ .opened ∨ p.tracker.tracking = false) →
      takeOnset e c t strength p = p.count (.stray c)) ∧
    (p.matcher.state = .opened → p.tracker.tracking = true →
      (p.matcher.candidate c = none → q = p) →
      (∀ k, p.matcher.candidate c = some k → q = { p with
        matcher := { p.matcher with candidates := p.matcher.candidates.set c none }
        counters := p.counters.modify (20 + 6 * c) (fun n => min (n + 1) 65535) }) →
      ((∀ d k, d < 4 → d ≠ c → p.matcher.candidate d = some k → within p.matcher.merge t k.time = false) →
        takeOnset e c t strength p =
          if hasCome e.clock (t + BitVec.ofNat 32 p.matcher.merge) then q.count (.unconfirmed c)
          else { q with
            matcher := { q.matcher with
              candidates := q.matcher.candidates.set c
                (some { time := t, strength := strength, expiry := t + BitVec.ofNat 32 p.matcher.merge }) } }) ∧
      (∀ d k, d < 4 → d ≠ c → p.matcher.candidate d = some k → within p.matcher.merge t k.time = true →
        (∀ d' k', d' < 4 → d' ≠ c → d' ≠ d → p.matcher.candidate d' = some k' →
          within p.matcher.merge t k'.time = true →
          (timeDiff t k.time).natAbs < (timeDiff t k'.time).natAbs ∨
          ((timeDiff t k.time).natAbs = (timeDiff t k'.time).natAbs ∧ isAfter k'.time k.time = true)) →
        takeOnset e c t strength p =
          if isAfter t k.time = true ∨ (t = k.time ∧ strength ≤ k.strength) then
            testReport e d k.time ({ q with matcher := { q.matcher with
              candidates := q.matcher.candidates.set d none } }.count (.duplicate c))
          else
            testReport e c t ({ q with matcher := { q.matcher with
              candidates := q.matcher.candidates.set d none } }.count (.duplicate d))))

/-- R90, R91, R112, R120: the window-close expiry, W after T of the earliest PENDING anchor while the matcher is
OPEN and the tracker LEADING, FOLLOWING or COASTING; when it has come the anchor is MISSED and counted, the
tracker's misses go up to 255 at most, a FOLLOWING tracker with as many as the miss limit is COASTING with
latch TRACK LOST, and the next expiry is derived; before it has come, nothing. TRACK PUT stores its seven
values clamped, and a changed window moves the window-close expiry at once. -/
def Obligations.WindowCloseAndTrackPut : Prop :=
  (∀ (m : Matcher) (tr : Tracker) (x : Tick), Rising m →
    (windowCloseFor m tr = some x ↔ m.state = .opened ∧
      (tr.state = .leading ∨ tr.state = .following ∨ tr.state = .coasting) ∧ ∃ a, EarliestPending m a ∧
      x = tr.timeOf a.position + BitVec.ofNat 32 (tr.params.window * tr.period / 61440))) ∧
  (∀ s : State, Awake s →
    (windowDue s.toEnv s.play = false → Settled s → exec .windowCloseExpiry s = .next s) ∧
    (∀ (a : Anchor) (n : Nat) (m : Matcher) (tr : Tracker), windowDue s.toEnv s.play = true →
      Rising s.play.matcher → EarliestPending s.play.matcher a → n = min (s.play.tracker.misses + 1) 255 →
      m = { s.play.matcher with anchors := s.play.matcher.anchors.map (fun b =>
        if b.position = a.position then { b with status := .missed } else b) } →
      tr = { s.play.tracker with
        misses := if s.play.tracker.tracking then n else s.play.tracker.misses
        state := if s.play.tracker.state = .following ∧ s.play.tracker.params.missLimit ≤ n then .coasting
          else s.play.tracker.state } →
      exec .windowCloseExpiry s = .next (afterwards s { s.play with
        matcher := { m with windowClose := windowCloseFor m tr }
        tracker := tr
        counters := s.play.counters.modify 2 (fun k => min (k + 1) 65535)
        latches := if s.play.tracker.state = .following ∧ s.play.tracker.params.missLimit ≤ n then
          s.play.latches ||| 512#19 else s.play.latches
        atOnce := s.play.atOnce ++ (if dueAt s.clock (windowCloseFor m tr) then [.windowClose] else []) }))) ∧
  (∀ (a : TrackArg) (v : TrackParams) (tr : Tracker) (w : Option Tick) (s : State), Ready s →
    v = { phaseGain := min a.phaseGain 16, tempoGain := min a.tempoGain 16,
          stepLimit := max 1 (min a.stepLimit 64), missLimit := max 1 (min a.missLimit 8),
          window := max 24 (min a.window 240), breath := min a.breath 480,
          holdFactor := max 2 (min a.holdFactor 16) } →
    tr = { s.play.tracker with params := v } → w = windowCloseFor s.play.matcher tr →
    (v.window = s.play.tracker.params.window → Settled s → exec (.trackPut a) s = .next { s with
      play := { s.play with tracker := tr }
      link := replyLink s 0x23 (putTrackParams v) }) ∧
    (v.window ≠ s.play.tracker.params.window → exec (.trackPut a) s = .next {
      afterwards s { s.play with
        tracker := tr
        matcher := { s.play.matcher with windowClose := w }
        atOnce := s.play.atOnce ++ (if dueAt s.clock w then [.windowClose] else []) } with
      link := replyLink s 0x23 (putTrackParams v) }))

/-- R1, R76, R88, R107, R128, R131, R181: a stored time becomes absent at the expiry 2^20 ticks after it, and
not before: a channel's last onset (from its report time, log 12) and last release, an anchor's matched
time, the last matched anchor, R while the tracker is IDLE, the last cue, and the apply record's two ticks.
TRACK QUERY replies with the part asked for or is refused, and changes nothing. -/
def Obligations.AgesRunOutAndTrackQuery : Prop :=
  (∀ now t : Tick, agesOut now (some t) = true ↔ timeDiff (t + 1048576#32) now ≤ 0) ∧
  (∀ (c : Nat) (s : State), Awake s →
    ((∀ ch o, s.listening.channels[c]? = some ch → ch.lastOnset = some o → agesOut s.clock (some o.time) = false) →
      exec (.lastOnsetExpiry c) s = .next s) ∧
    (∀ ch o, s.listening.channels[c]? = some ch → ch.lastOnset = some o → agesOut s.clock (some o.time) = true →
      exec (.lastOnsetExpiry c) s = .next { s with listening := { s.listening with
        channels := s.listening.channels.set c { ch with lastOnset := none } } }) ∧
    ((∀ ch t, s.listening.channels[c]? = some ch → ch.lastRelease = some t → agesOut s.clock (some t) = false) →
      exec (.lastReleaseExpiry c) s = .next s) ∧
    (∀ ch t, s.listening.channels[c]? = some ch → ch.lastRelease = some t → agesOut s.clock (some t) = true →
      exec (.lastReleaseExpiry c) s = .next { s with listening := { s.listening with
        channels := s.listening.channels.set c { ch with lastRelease := none } } })) ∧
  (∀ (i : Nat) (s : State), Awake s →
    ((∀ a t, s.play.matcher.anchors[i]? = some a → a.time = some t → agesOut s.clock (some t) = false) →
      exec (.matchedTimeExpiry i) s = .next s) ∧
    (∀ a t, s.play.matcher.anchors[i]? = some a → a.time = some t → agesOut s.clock (some t) = true →
      exec (.matchedTimeExpiry i) s = .next { s with play := { s.play with
        matcher := { s.play.matcher with anchors := s.play.matcher.anchors.set i { a with time := none } } } })) ∧
  (∀ s : State, Awake s →
    ((∀ m, s.play.tracker.lastAnchor = some m → agesOut s.clock (some m.time) = false) →
      exec .lastMatchedAnchorExpiry s = .next s) ∧
    (∀ m, s.play.tracker.lastAnchor = some m → agesOut s.clock (some m.time) = true →
      exec .lastMatchedAnchorExpiry s = .next { s with play := { s.play with
        tracker := { s.play.tracker with lastAnchor := none } } }) ∧
    ((∀ t, s.play.tracker.refTime = some t → s.play.tracker.state ≠ .idle ∨ agesOut s.clock (some t) = false) →
      exec .referenceTimeExpiry s = .next s) ∧
    (∀ t, s.play.tracker.refTime = some t → s.play.tracker.state = .idle → agesOut s.clock (some t) = true →
      exec .referenceTimeExpiry s = .next { s with play := { s.play with
        tracker := { s.play.tracker with refTime := none } } }) ∧
    ((∀ c, s.play.reader.lastCue = some c → agesOut s.clock (some c.tick) = false) →
      exec .lastCueExpiry s = .next s) ∧
    (∀ c, s.play.reader.lastCue = some c → agesOut s.clock (some c.tick) = true →
      exec .lastCueExpiry s = .next { s with play := { s.play with
        reader := { s.play.reader with lastCue := none } } }) ∧
    ((∀ t, s.play.apply.startTick = some t → agesOut s.clock (some t) = false) →
      exec (.applyTickExpiry .start) s = .next s) ∧
    (∀ t, s.play.apply.startTick = some t → agesOut s.clock (some t) = true →
      exec (.applyTickExpiry .start) s = .next { s with play := { s.play with
        apply := { s.play.apply with startTick := none } } }) ∧
    ((∀ t, s.play.apply.endTick = some t → agesOut s.clock (some t) = false) →
      exec (.applyTickExpiry .stop) s = .next s) ∧
    (∀ t, s.play.apply.endTick = some t → agesOut s.clock (some t) = true →
      exec (.applyTickExpiry .stop) s = .next { s with play := { s.play with
        apply := { s.play.apply with endTick := none } } })) ∧
  (∀ (part : Nat) (start : Option Nat) (s : State), Ready s → exec (.trackQuery part start) s = .next { s with
    link := if part = 0 then replyLink s 0x24 (putTracker s.play.tracker s.clock)
      else if part = 1 then replyLink s 0x24 (putHoldPart s.play.tracker s.clock)
      else if part = 2 then replyLink s 0x24 (putMatcher s.play.matcher s.listening.liveCount)
      else if part = 3 then replyLink s 0x24 (putAnchors s.play.matcher.anchors (start.getD 0))
      else rejectLink s 0x24 .badArgument 0 })

/-! ### Tempo Tracker -/

/-- R108 to R110, R123: T(x), its order, and the holding answers above the fermata position, with T(x) at or below it
answered from the reference as R108 states; pos(t), and that T of it is not after t and
less than a pulse and a half tick before it; and the range of W. -/
def Obligations.TimeAndPosition : Prop :=
  (∀ (tr : Tracker) (r : Tick) (x : Nat), tr.refTime = some r → tr.state ≠ .holding →
    (tr.refPos ≤ x → tr.timeOf x =
      r + BitVec.ofNat 32 (min (((x - tr.refPos) * tr.period + 30720) / 61440) 1048576)) ∧
    (x < tr.refPos → tr.timeOf x =
      r - BitVec.ofNat 32 (min (((tr.refPos - x) * tr.period + 30720) / 61440) 1048576))) ∧
  (∀ (tr : Tracker) (h : Hold) (r : Tick) (x : Nat), tr.state = .holding → tr.hold = some h →
    x ≤ h.position → tr.refTime = some r →
    (tr.refPos ≤ x → tr.timeOf x =
      r + BitVec.ofNat 32 (min (((x - tr.refPos) * tr.period + 30720) / 61440) 1048576)) ∧
    (x < tr.refPos → tr.timeOf x =
      r - BitVec.ofNat 32 (min (((tr.refPos - x) * tr.period + 30720) / 61440) 1048576))) ∧
  (∀ (tr : Tracker) (x y : Nat), tr.state ≠ .holding → x ≤ y → 0 ≤ timeDiff (tr.timeOf y) (tr.timeOf x)) ∧
  (∀ (tr : Tracker) (h : Hold) (x : Nat), tr.state = .holding → tr.hold = some h → h.position < x →
    (x < h.resume → tr.timeOf x = h.maxEnd) ∧
    (h.resume ≤ x → tr.timeOf x = h.maxEnd +
      BitVec.ofNat 32 ((tr.params.breath * tr.period + 30720) / 61440) +
      BitVec.ofNat 32 (((x - h.resume) * tr.period + 30720) / 61440))) ∧
  (∀ (tr : Tracker) (r t : Tick), tr.refTime = some r →
    (tr.state = .idle → tr.posAt t = none) ∧ (tr.state = .holding → tr.posAt t = some tr.refPos) ∧
    ((tr.state = .leading ∨ tr.state = .following ∨ tr.state = .coasting) →
      (0 < timeDiff r t → tr.posAt t = some tr.refPos) ∧
      (∀ elapsed : Nat, elapsed ≤ 1048576 → t = r + BitVec.ofNat 32 elapsed →
        tr.posAt t = some (min (tr.refPos + elapsed * 61440 / tr.period) 16777215) ∧
        (1 ≤ tr.period → ∀ x, x = tr.refPos + elapsed * 61440 / tr.period →
          0 ≤ timeDiff t (tr.timeOf x) ∧ timeDiff t (tr.timeOf x) * 61440 ≤ (tr.period : Int) + 30720)))) ∧
  (∀ tr : Tracker, 24 ≤ tr.params.window → tr.params.window ≤ 240 → 64000 ≤ tr.period → tr.period ≤ 512000 →
    25 ≤ tr.windowTicks ∧ tr.windowTicks ≤ 2000)

/-- R111, R115 to R119: a correction for another section, or outside LEADING, FOLLOWING and COASTING, changes
nothing. A taken one moves R by the gain's share of the error, limited to W, and X to the anchor; it measures
the tempo over a span of 120 to 1,920 pulses from the last matched anchor, counts an implausible interval,
limits the step and then clamps the period, counting each cut; it enters FOLLOWING, from COASTING with latch
TRACK REGAINED; and it is a tracker update. A rebase that has come moves X to the position heard now and R to
its time, and is a tracker update; one that has not come does nothing. -/
def Obligations.CorrectionsAndRebase : Prop :=
  (∀ (e : Env) (a : Nat) (t : Tick) (tag : Option Nat) (p : Play),
    (p.tracker.tracking = false ∨ tag ≠ p.tracker.tag) → takeCorrection e a t tag p = p) ∧
  (∀ (e : Env) (a : Nat) (t : Tick) (p : Play) (b : Bounds) (W err : Int), p.tracker.tracking = true →
    p.tracker.bounds = some b → W = ((p.tracker.params.window * p.tracker.period / 61440 : Nat) : Int) →
    err = max (-W) (min (timeDiff t (p.tracker.timeOf a)) W) →
    ∃ (P : Nat) (counters : List Nat),
      ((p.tracker.lastAnchor = none ∨ ∃ m, p.tracker.lastAnchor = some m ∧
          ((a : Int) - m.position < 120 ∨ 1920 < (a : Int) - m.position)) →
        P = p.tracker.period ∧ counters = p.counters) ∧
      (∀ (m : MatchPoint) (span pobs : Int), p.tracker.lastAnchor = some m → span = (a : Int) - m.position →
        120 ≤ span → span ≤ 1920 → pobs = (timeDiff t m.time * 61440 + span / 2) / span →
        ((pobs < ((b.least / 2 : Nat) : Int) ∨ 2 * (b.greatest : Int) < pobs) →
          P = p.tracker.period ∧ counters = p.counters.modify 3 (fun n => min (n + 1) 65535)) ∧
        (((b.least / 2 : Nat) : Int) ≤ pobs → pobs ≤ 2 * (b.greatest : Int) → ∀ want lim step : Int,
          want = ((pobs - p.tracker.period) * p.tracker.params.tempoGain + 8) / 16 →
          lim = (p.tracker.period : Int) * p.tracker.params.stepLimit / 256 → step = max (-lim) (min want lim) →
          (P : Int) = max (b.least : Int) (min (p.tracker.period + step) (b.greatest : Int)) ∧
          ∃ limited : List Nat,
            limited = (if step = want then p.counters else p.counters.modify 4 (fun n => min (n + 1) 65535)) ∧
            counters = (if (P : Int) = p.tracker.period + step then limited
              else limited.modify 5 (fun n => min (n + 1) 65535)))) ∧
      ∀ (tr : Tracker) (q : Play),
        tr = { p.tracker with
          refTime := some (p.tracker.timeOf a + BitVec.ofInt 32 ((err * p.tracker.params.phaseGain + 8) / 16))
          refPos := a
          period := P
          lastAnchor := some { position := a, time := t }
          matched := true
          misses := 0
          state := .following } →
        q = { p with
          counters := counters
          latches := if p.tracker.state = .coasting then p.latches ||| 1024#19 else p.latches } →
        takeCorrection e a t p.tracker.tag p = { followed e tr q with
          atOnce := p.atOnce ++ dueOfRetiming e (followed e tr q) ++ comeDue e (followed e tr q) }) ∧
  (∀ s : State, Awake s →
    ((s.play.tracker.tracking = false ∨
        ∀ r, s.play.tracker.refTime = some r → hasCome s.clock (r + 524288#32) = false) →
      Settled s → exec .rebase s = .next s) ∧
    (∀ (r : Tick) (x : Nat) (tr : Tracker), s.play.tracker.tracking = true → s.play.tracker.refTime = some r →
      hasCome s.clock (r + 524288#32) = true → s.play.tracker.posAt s.clock = some x →
      tr = { s.play.tracker with refPos := x, refTime := some (s.play.tracker.timeOf x) } →
      exec .rebase s = .next (afterwards s { followed s.toEnv tr s.play with
        atOnce := s.play.atOnce ++ dueOfRetiming s.toEnv (followed s.toEnv tr s.play) ++
          comeDue s.toEnv (followed s.toEnv tr s.play) })))

/-- R121, R123, R125, R126, R167, R168: at the fermata expiry the tracker enters HOLDING with its hold record, latch
HOLD START is raised, the candidates are dropped, and the records are converted. At the maximum end the hold
ends: the position resumes a breath later, the state is FOLLOWING or LEADING by the section's matches, latch
HOLD END is raised, the wait of the fermata ends, a record held by the tracker is retired when it ends by the
resume position and else is SOUNDING again, and one held by the host stays HELD. A release report ends the
hold exactly when it is not cue-held and the report is not before the minimum end. An expiry that has not come
does nothing. -/
def Obligations.HoldsStartAndEnd : Prop :=
  (∀ (e : Env) (tr : Tracker) (f i : Nat) (slots : List (Option KeyRecord)) (r : KeyRecord),
    slots[i]? = some (some r) →
    (r.span = none → (slotsAtHoldStart e tr f slots)[i]? = some (some r)) ∧
    (∀ sp, r.span = some sp →
      (r.state = .sounding → f < sp.stop → (slotsAtHoldStart e tr f slots)[i]? =
        some (some { r with state := .held, holdKind := some .tracker, offTime := none })) ∧
      (r.state = .sounding → sp.stop ≤ f → (slotsAtHoldStart e tr f slots)[i]? = some (some r)) ∧
      (r.state = .held → (slotsAtHoldStart e tr f slots)[i]? = some (some r)) ∧
      (r.state = .scheduled → ∃ off, (slotsAtHoldStart e tr f slots)[i]? = some (some
        { r with onTime := onTimeFor e tr r.division sp.start, offTime := some off })))) ∧
  (∀ s : State, Awake s →
    (fermataDue s.toEnv s.play = false → Settled s → exec .fermataExpiry s = .next s) ∧
    (∀ (f : Fermata) (u : Tick) (tr : Tracker) (q : Play), s.play.tracker.tracking = true →
      s.play.tracker.fermata = some f → s.play.tracker.fermataAt = some u → hasCome s.clock u = true →
      tr = { s.play.tracker with
        state := .holding, refPos := f.position, refTime := some s.clock, fermata := none, fermataAt := none
        hold := some
          { entry := .fermata, position := f.position, resume := f.resume, span := f.span, entryTime := s.clock
            minEnd := s.clock + BitVec.ofNat 32 ((f.span * s.play.tracker.period + 30720) / 61440)
            maxEnd := s.clock + BitVec.ofNat 32
              (min ((s.play.tracker.params.holdFactor * f.span / 2 * s.play.tracker.period + 30720) / 61440) 524288)
            cueHeld := false } } →
      q = { s.play with
        latches := s.play.latches ||| 2048#19
        tracker := tr
        matcher := { s.play.matcher with
          candidates := s.play.matcher.candidates.map (fun _ => none), windowClose := none }
        slots := slotsAtHoldStart s.toEnv tr f.position s.play.slots } →
      exec .fermataExpiry s = .next (afterwards s { q with
        reader := { s.play.reader with schedAt := schedulingFor s.toEnv q }
        atOnce := s.play.atOnce ++ (onTimesDue s.toEnv q).map Due.onTime ++
          (if dueAt s.clock (schedulingFor s.toEnv q) then [.scheduling] else []) })) ∧
    (maximumEndDue s.toEnv s.play = false → Settled s → exec .maximumEndExpiry s = .next s) ∧
    (∀ (h : Hold) (tr : Tracker) (q : Play), s.play.tracker.state = .holding → s.play.tracker.hold = some h →
      hasCome s.clock h.maxEnd = true →
      tr = { s.play.tracker with
        refPos := h.resume
        refTime := some (s.clock +
          BitVec.ofNat 32 ((s.play.tracker.params.breath * s.play.tracker.period + 30720) / 61440))
        state := if s.play.tracker.matched then .following else .leading
        misses := 0, lastAnchor := none, hold := none } →
      q = deriveExpiries s.toEnv (convertAtHoldEnd s.toEnv h.resume { s.play with
        tracker := tr
        latches := s.play.latches ||| 4096#19
        reader := { s.play.reader with
          wait := s.play.reader.wait.bind (fun w => if w ≤ h.position then none else some w) } }) →
      exec .maximumEndExpiry s = .next (afterwards s q) ∧
      q.tracker = { tr with fermataAt := tr.fermata.map (fun (f : Fermata) => tr.timeOf f.position) } ∧
      q.latches = s.play.latches ||| 4096#19 ∧ q.counters = s.play.counters ∧
      q.matcher = { s.play.matcher with windowClose := windowCloseFor s.play.matcher tr } ∧
      (∀ (i : Nat) (r : KeyRecord) (sp : Span), s.play.record i = some r → r.state = .held → r.span = some sp →
        (r.holdKind = some .tracker → sp.stop ≤ h.resume → q.record i = none) ∧
        (r.holdKind = some .tracker → h.resume < sp.stop → ∃ r', q.record i = some r' ∧ r'.state = .sounding ∧
          r'.holdKind = none ∧ r'.onTime = r.onTime ∧ r'.span = r.span ∧ r'.deadline = r.deadline ∧
          r'.offTime.isSome = true) ∧
        (r.holdKind = some .host → ∃ r', q.record i = some r' ∧ r'.state = .held ∧
          r'.holdKind = some .host ∧ r'.span = r.span ∧ r'.deadline = r.deadline)))) ∧
  (∀ (e : Env) (t : Tick) (p : Play),
    (p.tracker.state ≠ .holding → takeRelease e t p = p) ∧
    (∀ h, p.tracker.state = .holding → p.tracker.hold = some h →
      ((h.cueHeld = true ∨ 0 < timeDiff h.minEnd t) → takeRelease e t p = p) ∧
      (h.cueHeld = false → timeDiff h.minEnd t ≤ 0 → takeRelease e t p = endHold e p)))

/-! ### Score Reader -/

/-- R51, R132, R133, R136: PLAY with its five tests in order. A taken one takes the item up: the cursor, the tune's
IN_USE mark, the plan, the effective tempo of its override and the tune's header, latch ITEM START; ON_CUE waits for
GO, and NOW is PREPARING the first section, whose registration the Stop Action unit is asked to apply. The start mode
is 0 for NOW and 1 for ON_CUE (log 44), and the reply's flow state is read after all that the request brings about at
its tick (log 26). -/
def Obligations.PlayTakesAnItemUp : Prop :=
  (∀ (o : Option TempoOverride) (h : Header), h.least ≤ h.nominal → h.nominal ≤ h.greatest →
    h.least ≤ (effectiveTempo o h).least ∧ (effectiveTempo o h).least ≤ (effectiveTempo o h).starting ∧
    (effectiveTempo o h).starting ≤ (effectiveTempo o h).greatest ∧
    (effectiveTempo o h).greatest ≤ h.greatest ∧
    (o = none → effectiveTempo o h = { least := h.least, greatest := h.greatest, starting := h.nominal })) ∧
  (∀ (v : TempoOverride) (h : Header) (least greatest : Nat),
    least = max h.least (v.least.getD h.least) → greatest = min h.greatest (v.greatest.getD h.greatest) →
    (least ≤ greatest → effectiveTempo (some v) h =
      { least := least, greatest := greatest, starting := max least (min v.period greatest) }) ∧
    (greatest < least → effectiveTempo (some v) h =
      { least := h.least, greatest := h.greatest, starting := max h.least (min v.period h.greatest) })) ∧
  (∀ (i mode : Nat) (s : State), Ready s →
    (2 ≤ mode → exec (.play i mode) s = .next { s with link := rejectLink s 0x28 .badArgument 0 }) ∧
    (mode ≤ 1 →
      (s.play.reader.flow ≠ .idle →
        exec (.play i mode) s = .next { s with link := rejectLink s 0x28 .inService 0 }) ∧
      (s.play.reader.flow = .idle →
        (s.chain.phase ≠ .running →
          exec (.play i mode) s = .next { s with link := rejectLink s 0x28 .notReady 0 }) ∧
        (s.chain.phase = .running →
          (s.items.length ≤ i → exec (.play i mode) s = .next { s with link := rejectLink s 0x28 .notFound 1 }) ∧
          (∀ it, s.items[i]? = some it →
            (s.library.ready it.tuneId = none →
              exec (.play i mode) s = .next { s with link := rejectLink s 0x28 .notFound 2 }) ∧
            (∀ (n : Nat) (en : Entry) (tune : Tune) (b : Bounds) (q : Play),
              s.library.ready it.tuneId = some n → s.library.entry n = some en →
              readTune s.library.mem en = some tune → b = effectiveTempo it.tempo tune.header →
              q = { s.play with
                cursor := some i
                inUse := some n
                latches := s.play.latches ||| 64#19
                reader := { s.play.reader with
                  plan := some ((if it.giveOut = .none then [] else [Section.giveOut]) ++
                    (List.range it.verseRegs.length).map (fun k => Section.verse (k + 1)) ++
                    (if it.amen = true ∧ tune.derived.amenPresent = true then [Section.amen] else []))
                  inHand := none
                  tempo := some b } } →
              (mode = 1 → Settled s → exec (.play i mode) s = .next { s with
                play := { q with reader := { q.reader with flow := .waiting } }
                link := replyLink s 0x28 (putNum 1 i ++ putNum 1 1 ++ putNum 3 b.least ++ putNum 3 b.greatest ++
                  putNum 3 b.starting) }) ∧
              (mode = 0 → 1 ≤ it.verseRegs.length → ∀ (reg : Nat) (t : State),
                reg = (if it.giveOut = .none then it.verseRegs.getD 0 0 else it.giveOutReg.getD 0) →
                t = afterwards s (requestApply s.toEnv reg .reader
                  { q with reader := { q.reader with flow := .preparing, inHand := some 0 } }) →
                exec (.play i mode) s = .next { t with
                  link := replyLink s 0x28 (putNum 1 i ++ putNum 1 t.play.reader.flow.code ++
                    putNum 3 b.least ++ putNum 3 b.greatest ++ putNum 3 b.starting) })))))))

/-- R59, R92, R114, R143 to R146, R150, R174, R175: STOP ITEM is refused NOT_FOUND in IDLE, and else ends the item
STOPPED and retires every record but the PLANNER ones. CANCEL ALL retires every record and ends an item in hand
CANCELLED; its reply carries how many records were retired. A section ends when the cursor is past its last event and
no record holds its tag, and the test does nothing before: a hold in progress ends, the PENDING anchors are MISSED,
and the reader prepares the next section, or after the final one the item ends COMPLETE and its end action follows:
the cursor moves to the next item or becomes absent; under WAIT_CUE the next item is taken up and waits, under
CONTINUE it is taken up and prepared, and with no READY tune for it the cause is NO_TUNE. At an item's end the model
deduces that section in play becomes no (log 34) and that the matcher keeps its section tag (log 22). -/
def Obligations.StopAndCancelEndTheItem : Prop :=
  (∀ s : State, Ready s → s.play.reader.flow = .idle →
    exec .stopItem s = .next { s with link := rejectLink s 0x29 .notFound 0 }) ∧
  (∀ s : State, Ready s → Settled s → s.play.reader.flow ≠ .idle → exec .stopItem s = .next { s with
    play := playEnded .stopped (s.play.slots.map (fun o => o.filter (fun r => decide (r.origin = .planner)))) s.play
    link := replyLink s 0x29 (putNum 1 (s.play.cursor.getD 0) ++ putNum 1 0) }) ∧
  (∀ s : State, Ready s → Settled s → exec .cancelAll s = .next { s with
    play := if s.play.reader.flow = .idle then { s.play with slots := s.play.slots.map (fun _ => none) }
      else playEnded .cancelled (s.play.slots.map (fun _ => none)) s.play
    link := replyLink s 0x2A (putNum 1 (s.play.slots.countP (fun o => o.isSome))) }) ∧
  (∀ (e : Env) (p : Play),
    (((p.reader.flow ≠ .playing ∧ p.reader.flow ≠ .ending) ∨ p.reader.cursor ≠ some .pastEnd ∨
      ∃ i r sp, p.record i = some r ∧ r.span = some sp ∧ sp.tag = p.reader.tag) →
      takeDue e .sectionTest p = p) ∧
    ((p.reader.flow = .playing ∨ p.reader.flow = .ending) → p.reader.cursor = some .pastEnd →
      (∀ i r sp, p.record i = some r → r.span = some sp → sp.tag ≠ p.reader.tag) →
      ∀ (plan : List Section) (k : Nat) (item : Item), p.reader.plan = some plan → p.reader.inHand = some k →
      e.playingItem p = some item →
      (∀ sec, plan[k + 1]? = some sec →
        takeDue e .sectionTest p = requestApply e (sectionRegistration item sec) .reader
          { sectionEnded p with
            reader := { (sectionEnded p).reader with flow := .preparing, inHand := some (k + 1) } }) ∧
      (plan.length ≤ k + 1 → ∀ (i : Nat) (q : Play), p.cursor = some i →
        q = playEnded .complete p.slots (sectionEnded p) →
        (e.items.length ≤ i + 1 → takeDue e .sectionTest p = { q with cursor := none }) ∧
        (∀ next, e.items[i + 1]? = some next →
          (item.endAction = .halt → takeDue e .sectionTest p = { q with cursor := some (i + 1) }) ∧
          (item.endAction ≠ .halt → e.library.ready next.tuneId = none → takeDue e .sectionTest p =
            { q with cursor := some (i + 1), reader := { q.reader with cause := some .noTune } }) ∧
          (∀ (n : Nat) (en : Entry) (tune : Tune) (u : Play), e.library.ready next.tuneId = some n →
            e.library.entry n = some en → readTune e.library.mem en = some tune →
            u = takenUpItem (i + 1) n next tune { q with cursor := some (i + 1) } →
            (item.endAction = .waitCue →
              takeDue e .sectionTest p = { u with reader := { u.reader with flow := .waiting } }) ∧
            (∀ sec rest, item.endAction = .continue → u.reader.plan = some (sec :: rest) →
              takeDue e .sectionTest p = requestApply e (sectionRegistration next sec) .reader
                { u with reader := { u.reader with flow := .preparing, inHand := some 0 } }))))))

/-- R113, R134, R135, R137 to R139, R151: the sections' tables, the give-out's lines among them: the events, the
first and the end position, the registration and the gap of each section. At the gap's end the section starts: the
tag goes up by one and wraps, the cursor stands on the first event, the tracker is LEADING from the section's first
position at this tick, at the item's starting period for its first section, the matcher holds the section's anchors,
latch SECTION START is raised, and the update is handed on. READER PUT stores its horizon clamped and derives the
scheduling expiry, T less maxLead less the horizon, at once. -/
def Obligations.SectionStartAndHorizon : Prop :=
  (∀ (item : Item) (tune : Tune) (verse out : List ScoreEvent), verse = tune.events.filter (fun ev => !ev.amen) →
    out = sectionEvents item tune .giveOut →
    (∀ n, sectionEvents item tune (.verse n) = verse ∧ sectionFirst item tune (.verse n) = 0 ∧
      sectionStop item tune (.verse n) = tune.derived.verseLength) ∧
    sectionEvents item tune .amen = tune.events.filter (·.amen) ∧
    (∀ a, tune.derived.amenStart = some a → sectionFirst item tune .amen = a) ∧
    (∀ a, tune.derived.amenEnd = some a → sectionStop item tune .amen = a) ∧
    (item.giveOut = .none → out = []) ∧ (item.giveOut = .whole → out = verse) ∧
    (item.giveOut = .firstLine → ∃ rest, verse = out ++ rest ∧ (∀ ev ∈ out.dropLast, ev.lineEnd = false) ∧
      (rest = [] ∨ ∃ ev, out.getLast? = some ev ∧ ev.lineEnd = true)) ∧
    (item.giveOut = .lastLine → ∃ before, verse = before ++ out ∧
      (verse.countP (·.lineEnd) ≤ 1 → before = []) ∧
      (1 < verse.countP (·.lineEnd) →
        (∃ ev, before.getLast? = some ev ∧ ev.lineEnd = true) ∧ out.countP (·.lineEnd) = 1)) ∧
    (∀ ev, out.head? = some ev → sectionFirst item tune .giveOut = ev.position) ∧
    (∀ ev ∈ out, ∀ note ∈ ev.notes, ev.position + note.duration ≤ sectionStop item tune .giveOut) ∧
    (sectionStop item tune .giveOut = 0 ∨ ∃ ev ∈ out, ∃ note ∈ ev.notes,
      sectionStop item tune .giveOut = ev.position + note.duration)) ∧
  (∀ (item : Item) (plan : List Section),
    (∀ r, item.giveOutReg = some r → sectionRegistration item .giveOut = r) ∧
    (∀ n r, 1 ≤ n → item.verseRegs[n - 1]? = some r → sectionRegistration item (.verse n) = r) ∧
    (∀ r, item.verseRegs.getLast? = some r → sectionRegistration item .amen = r) ∧
    sectionGap item plan .giveOut = 0 ∧ sectionGap item plan .amen = item.verseGap ∧
    (.giveOut ∈ plan → sectionGap item plan (.verse 1) = item.introGap) ∧
    (.giveOut ∉ plan → sectionGap item plan (.verse 1) = 0) ∧
    (∀ n, 2 ≤ n → sectionGap item plan (.verse n) = item.verseGap)) ∧
  (∀ s : State, Awake s →
    (gapEndDue s.toEnv s.play = false → Settled s → exec .gapEnd s = .next s) ∧
    (∀ (item : Item) (tune : Tune) (sec : Section) (evs : List ScoreEvent) (tag : Nat) (tr : Tracker) (q : Play),
      gapEndDue s.toEnv s.play = true → s.toEnv.playingItem s.play = some item →
      s.toEnv.playingTune s.play = some tune → s.play.reader.section = some sec →
      evs = sectionEvents item tune sec → tag = (s.play.reader.tag + 1) % 65536 →
      (s.play.reader.inHand = some 0 → ∀ b, s.play.reader.tempo = some b →
        tr.bounds = some b ∧ tr.period = b.starting) →
      ((s.play.reader.inHand ≠ some 0 ∨ s.play.reader.tempo = none) →
        tr.bounds = s.play.tracker.bounds ∧ tr.period = s.play.tracker.period) →
      tr = { s.play.tracker with
        bounds := tr.bounds, period := tr.period, refTime := some s.clock, refPos := sectionFirst item tune sec
        tag := some tag, inPlay := true, matched := false, lastAnchor := none, misses := 0, fermata := none
        fermataAt := none, hold := none, state := .leading } →
      q = { s.play with
        latches := s.play.latches ||| (if s.play.tracker.state = .holding then 4096#19 else 0#19) ||| 128#19
        reader := { s.play.reader with
          flow := .playing, tag := tag, wait := none, gapEnd := none
          cursor := some (if evs = [] then .pastEnd else .event 0) }
        matcher := { s.play.matcher with
          state := if sec = .giveOut then .giveOut else .opened
          anchors := if sec = .giveOut then [] else (evs.filter (·.anchor)).map (fun ev =>
            { position := ev.position, status := .pending, time := none, channel := none })
          tag := some tag
          candidates := s.play.matcher.candidates.map (fun _ => none)
          windowClose := none } } →
      exec .gapEnd s = .next (afterwards s { followed s.toEnv tr q with
        atOnce := s.play.atOnce ++ [.sectionTest] ++ dueOfRetiming s.toEnv (followed s.toEnv tr q) ++
          comeDue s.toEnv (followed s.toEnv tr q) }))) ∧
  (∀ (e : Env) (p : Play),
    (((p.reader.flow ≠ .playing ∧ p.reader.flow ≠ .ending) ∨ p.reader.wait ≠ none ∨
      ∀ k, p.reader.cursor ≠ some (.event k)) → schedulingFor e p = none) ∧
    (∀ k ev, (p.reader.flow = .playing ∨ p.reader.flow = .ending) → p.reader.wait = none →
      p.reader.cursor = some (.event k) → (e.events p)[k]? = some ev →
      schedulingFor e p = some (p.tracker.timeOf ev.position - BitVec.ofNat 32 e.maxLead -
        BitVec.ofNat 32 p.reader.horizon)) ∧
    (∀ d v, d < 4 → e.presentDivision d = some v → v.transport ≤ e.maxLead) ∧
    (e.maxLead = 0 ∨ ∃ d v, d < 4 ∧ e.presentDivision d = some v ∧ e.maxLead = v.transport)) ∧
  (∀ (horizon H : Nat) (w : Option Tick) (s : State), Ready s → H = max 100 (min horizon 1000) →
    w = schedulingFor s.toEnv { s.play with reader := { s.play.reader with horizon := H } } →
    exec (.readerPut horizon) s = .next {
      afterwards s { s.play with
        reader := { s.play.reader with horizon := H, schedAt := w }
        atOnce := s.play.atOnce ++ (if dueAt s.clock w then [.scheduling] else []) } with
      link := replyLink s 0x2B (putNum 2 H) })

/-- R140, R141: a note is handed on a route to a PRESENT division on its key folded by octaves into the compass,
counting FOLDED when it moved, and else is SKIPPED. At the scheduling expiry the notes of the event are handed in
order; a fermata becomes the tracker's pending one and the reader waits at it; the cursor moves on, and past
the final section's last event the reader is ENDING. An expiry that has not come does nothing. -/
def Obligations.SchedulingHandsNotes : Prop :=
  (∀ (v : Division) (k : Int), 12 ≤ v.keys →
    (v.lowest : Int) ≤ v.foldKey k ∧ v.foldKey k ≤ (v.lowest : Int) + v.keys - 1 ∧ (12 : Int) ∣ v.foldKey k - k ∧
    (k < v.lowest → v.foldKey k < (v.lowest : Int) + 12) ∧
    ((v.lowest : Int) + v.keys - 1 < k → (v.lowest : Int) + v.keys - 13 < v.foldKey k) ∧
    ((v.lowest : Int) ≤ k → k ≤ (v.lowest : Int) + v.keys - 1 → v.foldKey k = k)) ∧
  (∀ (e : Env) (tune : Tune) (origin : Origin) (tag position : Nat) (note : Note) (p : Play) (route : Route),
    (e.presentDivision route.division = none →
      handOnRoute e tune origin tag position note p route = p.count .skipped) ∧
    (∀ (v : Division) (k : Int), e.presentDivision route.division = some v →
      k = v.foldKey ((note.pitch : Int) + route.shift) →
      handOnRoute e tune origin tag position note p route = takeNote e
        { division := route.division, key := k.toNat, voice := note.voice
          priority := tune.header.priorities.getD note.voice 0, start := position
          stop := position + note.duration, tie := note.tie, origin := origin, tag := tag }
        (if k = (note.pitch : Int) + route.shift then p else p.count .folded))) ∧
  (∀ s : State, Awake s →
    (schedulingDue s.toEnv s.play = false → Settled s → exec .schedulingExpiry s = .next s) ∧
    (∀ (item : Item) (tune : Tune) (sec : Section) (evs : List ScoreEvent) (k : Nat) (ev : ScoreEvent)
      (reg : Registration) (p q : Play) (rd : Reader) (tr : Tracker) (fermata : List Due),
      schedulingDue s.toEnv s.play = true → s.toEnv.playingItem s.play = some item →
      s.toEnv.playingTune s.play = some tune → s.play.reader.section = some sec →
      evs = sectionEvents item tune sec → s.play.reader.cursor = some (.event k) → evs[k]? = some ev →
      reg = s.toEnv.registration (sectionRegistration item sec) →
      p = ev.notes.foldl (fun p note => (reg.voices.getD note.voice []).foldl (fun p route =>
        handOnRoute s.toEnv tune (if sec = .giveOut then .giveOut else .score) s.play.reader.tag ev.position
          note p route) p) s.play →
      rd = { s.play.reader with
        cursor := some (if k + 1 < evs.length then .event (k + 1) else .pastEnd)
        flow := if k + 1 < evs.length ∨ s.play.reader.isFinal = false then s.play.reader.flow else .ending
        wait := if ev.fermata = true then some ev.position else s.play.reader.wait } →
      (ev.fermata = true → tr = { s.play.tracker with
        fermata := some { position := ev.position, span := (ev.notes.map (·.duration)).foldl max 0
                          resume := ((evs[k + 1]?).map (·.position)).getD (sectionStop item tune sec) }
        fermataAt := some (s.play.tracker.timeOf ev.position) }) →
      (ev.fermata = false → tr = s.play.tracker) →
      fermata = (if ev.fermata = true ∧ tr.tracking = true ∧ hasCome s.clock (tr.timeOf ev.position) = true then
        [.fermata] else []) →
      q = { p with tracker := tr, reader := { rd with schedAt := schedulingFor s.toEnv { p with tracker := tr, reader := rd } } } →
      p.reader = s.play.reader ∧ p.tracker = s.play.tracker ∧ p.matcher = s.play.matcher ∧
      p.cursor = s.play.cursor ∧ p.inUse = s.play.inUse ∧ p.stops = s.play.stops ∧ p.apply = s.play.apply ∧
      exec .schedulingExpiry s = .next (afterwards s { q with
        atOnce := p.atOnce ++ fermata ++ [.sectionTest] ++
          (if dueAt s.clock q.reader.schedAt then [.scheduling] else []) })))

/-- R147: a cue input's debounce. R148 to R150, R122, R124, R142: each counted press raises latch CUE and is the
last cue, TAKEN or IGNORED; an ignored one counts CUE IGNORED and does nothing else. GO in WAITING prepares
the first section, and ends a hold; HOLD extends a hold by its span, to 2^19 ticks from its entry at most, or
enters a cue hold, whose record holds entry CUE with cue-held set, on the latest event heard, behind which the reader
waits: of the events the cursor has passed, the last whose T is not after the present tick, with its longest duration
as span and the next event's position, or the section's end, as resume position; STOP ends the item. Of that item's end
the model deduces that section in play becomes no (log 34) and that the matcher keeps its section tag (log 22); the
event heard is found by T alone just after a hold end (log 43). -/
def Obligations.CueInputsAndPresses : Prop :=
  (∀ (e : Env) (p : Play) (f : Fermata), e.heldEvent p = some f ↔
    ∃ (n k : Nat) (ev : ScoreEvent),
      n = (match p.reader.cursor with
        | some (.event i) => i | some .pastEnd => (e.events p).length | none => 0) ∧
      k < n ∧ (e.events p)[k]? = some ev ∧ hasCome e.clock (p.tracker.timeOf ev.position) = true ∧
      (∀ j later, k < j → j < n → (e.events p)[j]? = some later →
        hasCome e.clock (p.tracker.timeOf later.position) = false) ∧
      f.position = ev.position ∧ f.span = (ev.notes.map (·.duration)).foldl max 0 ∧
      f.resume = (((e.events p)[k + 1]?).map (·.position)).getD (e.sectionEnd p)) ∧
  (∀ (b : Button) (c : CueInput) (s : State), Awake s → c = s.play.reader.cue b →
    exec (.cueContactClosed b) s = .next { s with play := setCue b (
      if c.state = .opened then { state := .closing, timer := some s.clock }
      else if c.state = .opening then { state := .closed, timer := none } else c) s.play } ∧
    exec (.cueContactOpened b) s = .next { s with play := setCue b (
      if c.state = .closing then { state := .opened, timer := none }
      else if c.state = .closed then { state := .opening, timer := some s.clock } else c) s.play } ∧
    (Settled s →
      ((c.state = .opened ∨ c.state = .closed ∨ ∀ u, c.timer = some u → hasCome s.clock (u + 20#32) = false) →
        exec (.cueDebounceExpiry b) s = .next s) ∧
      (∀ u, c.state = .opening → c.timer = some u → hasCome s.clock (u + 20#32) = true →
        exec (.cueDebounceExpiry b) s = .next { s with
          play := setCue b { state := .opened, timer := none } s.play }))) ∧
  (∀ (b : Button) (c : CueInput) (u : Tick) (q : Bool → Play) (s : State), Awake s → c = s.play.reader.cue b →
    c.state = .closing → c.timer = some u → hasCome s.clock (u + 20#32) = true →
    (∀ taken, q taken = { s.play with
      reader := { s.play.reader.setCue b { state := .closed, timer := none } with
        lastCue := some { button := b, tick := s.clock, taken := taken } }
      latches := s.play.latches ||| 262144#19
      counters := if taken then s.play.counters else s.play.counters.modify 8 (fun n => min (n + 1) 65535) }) →
    (Settled s →
      ((b = .go ∧ s.play.reader.flow ≠ .waiting ∧
          ((s.play.reader.flow ≠ .playing ∧ s.play.reader.flow ≠ .ending) ∨ s.play.tracker.state ≠ .holding)) ∨
        (b = .hold ∧ ((s.play.reader.flow ≠ .playing ∧ s.play.reader.flow ≠ .ending) ∨
          (s.play.tracker.state ≠ .holding ∧ (s.play.tracker.tracking = false ∨ s.play.tracker.inPlay = false ∨
            s.toEnv.heldEvent s.play = none)))) ∨
        (b = .stop ∧ s.play.reader.flow = .idle)) →
      exec (.cueDebounceExpiry b) s = .next { s with play := q false }) ∧
    (∀ (item : Item) (sec : Section) (rest : List Section), b = .go → s.play.reader.flow = .waiting →
      s.toEnv.playingItem s.play = some item → s.play.reader.plan = some (sec :: rest) →
      exec (.cueDebounceExpiry b) s = .next (afterwards s (requestApply s.toEnv (sectionRegistration item sec)
        .reader { q true with reader := { (q true).reader with flow := .preparing, inHand := some 0 } }))) ∧
    ((s.play.reader.flow = .playing ∨ s.play.reader.flow = .ending) →
      (b = .go → s.play.tracker.state = .holding →
        exec (.cueDebounceExpiry b) s = .next (afterwards s (endHold s.toEnv (q true)))) ∧
      (∀ (h : Hold) (tr : Tracker), b = .hold → s.play.tracker.state = .holding → s.play.tracker.hold = some h →
        tr = { s.play.tracker with hold := some { h with
          cueHeld := true
          maxEnd := earlier
            (h.maxEnd + BitVec.ofNat 32 ((h.span * s.play.tracker.period + 30720) / 61440))
            (h.entryTime + 524288#32) } } →
        exec (.cueDebounceExpiry b) s = .next (afterwards s { followed s.toEnv tr (q true) with
          atOnce := s.play.atOnce ++ dueOfRetiming s.toEnv (followed s.toEnv tr (q true)) ++
            comeDue s.toEnv (followed s.toEnv tr (q true)) })) ∧
      (∀ (f : Fermata) (tr : Tracker) (p : Play), b = .hold → s.play.tracker.tracking = true →
        s.play.tracker.inPlay = true → s.toEnv.heldEvent s.play = some f →
        tr = { s.play.tracker with
          state := .holding, refPos := f.position, refTime := some s.clock
          fermata := s.play.tracker.fermata.filter (fun g => decide (g.position ≠ f.position))
          hold := some
            { entry := .cue, position := f.position, resume := f.resume, span := f.span, entryTime := s.clock
              minEnd := s.clock + BitVec.ofNat 32 ((f.span * s.play.tracker.period + 30720) / 61440)
              maxEnd := s.clock + BitVec.ofNat 32
                (min ((s.play.tracker.params.holdFactor * f.span / 2 * s.play.tracker.period + 30720) / 61440) 524288)
              cueHeld := true } } →
        p = { q true with
          latches := s.play.latches ||| 262144#19 ||| 2048#19
          tracker := { tr with fermataAt := tr.fermata.map (fun g => tr.timeOf g.position) }
          matcher := { s.play.matcher with
            candidates := s.play.matcher.candidates.map (fun _ => none), windowClose := none }
          slots := slotsAtHoldStart s.toEnv tr f.position s.play.slots
          reader := { (q true).reader with
            schedAt := none
            wait := match s.play.reader.wait with
              | some w => if f.position ≤ w then some w else some f.position
              | none => some f.position } } →
        exec (.cueDebounceExpiry b) s = .next (afterwards s { p with
          atOnce := s.play.atOnce ++ (onTimesDue s.toEnv p).map Due.onTime }))) ∧
    (Settled s → b = .stop → s.play.reader.flow ≠ .idle →
      exec (.cueDebounceExpiry b) s = .next { s with
        play := playEnded .stopped (s.play.slots.map (fun o => o.filter (fun r => decide (r.origin = .planner)))) (q true) }))

/-! ### Keying Table -/

/-- R157, R159 to R165: a note joins its key's latest record by a tie, in unison, by another voice that overlaps
(MERGED), or by absorption where the record could not be cut (MERGED); every other record stays as it was. Any
other note makes a SCHEDULED record in the lowest free slot, its times as R155 gives them: the latest record it
follows has it as its successor, and is cut before it where it would run into it (MERGED). A record whose on time
has come is keyed at once, with the handover of R157 from a current record of its key (REPEAT LOST). With no free
slot one record is stolen (STOLEN, latch NOTE STOLEN), in the order of R165, and with none to steal the note is
DROPPED, beside which MERGED of its cut stays counted, the model's choice (log 48). -/
def Obligations.NotesJoinOrMakeRecords : Prop :=
  ∀ (e : Env) (n : NoteIn) (p : Play) (v : Division) (on off : Tick) (made : KeyRecord) (chosen : Nat → Prop),
    e.organ.division n.division = some v →
    on = p.tracker.timeOf n.start - BitVec.ofNat 32 v.transport →
    off = later (p.tracker.timeOf n.stop - BitVec.ofNat 32 v.transport - BitVec.ofNat 32 v.articulation)
      (on + BitVec.ofNat 32 e.organ.settings.minSpeak) →
    made = { division := n.division, key := n.key, state := .scheduled, origin := n.origin
             voices := BitVec.twoPow 6 n.voice, priority := n.priority
             span := some { start := n.start, stop := n.stop, tag := n.tag }, onTime := on, offTime := some off
             deadline := none, successor := none, holdKind := none } →
    (∀ i, chosen i ↔ ∃ r, p.record i = some r ∧ r.state = .sounding ∧ r.origin ≠ .planner ∧
      ∀ j x, j ≠ i → p.record j = some x → x.state = .sounding → x.origin ≠ .planner →
        ∀ current : Nat → Nat,
          (∀ d, current d = p.slots.countP (fun o => o.any (fun y => y.state ≠ .scheduled ∧ y.division = d))) →
          current x.division < current r.division ∨ (current x.division = current r.division ∧
            (r.division < x.division ∨ (r.division = x.division ∧
              (r.priority < x.priority ∨ (r.priority = x.priority ∧
                (isAfter x.onTime r.onTime = true ∨ (r.onTime = x.onTime ∧ i < j)))))))) →
    (∀ (i : Nat) (r : KeyRecord) (sp : Span) (cut : Tick), p.record i = some r →
      r.span = some sp → r.division = n.division → r.key = n.key → sp.tag = n.tag →
      (∀ j x sx, j ≠ i → p.record j = some x → x.span = some sx → x.division = n.division → x.key = n.key →
        sx.tag = n.tag → sx.start < sp.start) →
      cut = on - BitVec.ofNat 32 v.repeatGap →
      (∀ (stop : Nat) (merged : Bool),
        ((n.tie = true ∧ sp.stop = n.start ∧ stop = n.stop ∧ merged = false) ∨
         ((n.tie = false ∨ sp.stop ≠ n.start) ∧ stop = max sp.stop n.stop ∧
          ((sp.start = n.start ∧ merged = false) ∨
           (sp.start ≠ n.start ∧ r.voices &&& BitVec.twoPow 6 n.voice = 0 ∧ n.start < sp.stop ∧ merged = true) ∨
           (sp.start ≠ n.start ∧ (r.voices &&& BitVec.twoPow 6 n.voice ≠ 0 ∨ sp.stop ≤ n.start) ∧
            (∃ off, r.offTime = some off ∧ isAfter off cut = true) ∧
            isAfter (r.onTime + BitVec.ofNat 32 e.organ.settings.minSpeak) cut = true ∧ merged = true)))) →
        (∀ j, j ≠ i → (takeNote e n p).record j = p.record j) ∧
        (takeNote e n p).counters =
          (if merged then p.counters.modify 9 (fun k => min (k + 1) 65535) else p.counters) ∧
        ∃ r', (takeNote e n p).record i = some r' ∧ r'.voices = r.voices ||| BitVec.twoPow 6 n.voice ∧
          r'.priority = max r.priority n.priority ∧ r'.span = some { sp with stop := stop } ∧
          r'.state = r.state ∧ r'.deadline = r.deadline ∧ r'.successor = r.successor ∧
          r'.holdKind = r.holdKind ∧ (r.state = .held → r'.offTime = r.offTime)) ∧
      (∀ merged : Bool, (n.tie = false ∨ sp.stop ≠ n.start) →
        sp.start ≠ n.start → (r.voices &&& BitVec.twoPow 6 n.voice ≠ 0 ∨ sp.stop ≤ n.start) →
        (((∃ off, r.offTime = some off ∧ isAfter off cut = true) ∧
          isAfter (r.onTime + BitVec.ofNat 32 e.organ.settings.minSpeak) cut = false ∧ merged = true) ∨
         ((∀ off, r.offTime = some off → isAfter off cut = false) ∧ merged = false)) →
        p.freeSlot = none → (∀ j x, p.record j = some x → x.state ≠ .sounding ∨ x.origin = .planner) →
        takeNote e n p = { p with
          counters := (if merged then p.counters.modify 9 (fun k => min (k + 1) 65535) else p.counters).modify 11
            (fun k => min (k + 1) 65535) }) ∧
      (∀ (k : Nat) (merged stolen : Bool) (counted : List Nat), (n.tie = false ∨ sp.stop ≠ n.start) →
        sp.start ≠ n.start → (r.voices &&& BitVec.twoPow 6 n.voice ≠ 0 ∨ sp.stop ≤ n.start) →
        (((∃ off, r.offTime = some off ∧ isAfter off cut = true) ∧
          isAfter (r.onTime + BitVec.ofNat 32 e.organ.settings.minSpeak) cut = false ∧ merged = true) ∨
         ((∀ off, r.offTime = some off → isAfter off cut = false) ∧ merged = false)) →
        ((p.freeSlot = some k ∧ stolen = false) ∨ (p.freeSlot = none ∧ chosen k ∧ stolen = true)) →
        counted = (if merged then p.counters.modify 9 (fun k => min (k + 1) 65535) else p.counters) →
        (hasCome e.clock on = false →
          (takeNote e n p).record k = some made ∧
          (takeNote e n p).counters = (if stolen then counted.modify 10 (fun k => min (k + 1) 65535) else counted) ∧
          (takeNote e n p).latches = (if stolen then p.latches ||| 16384#19 else p.latches) ∧
          (stolen = false → ∀ j, j ≠ i → j ≠ k → (takeNote e n p).record j = p.record j) ∧
          (k ≠ i → ∃ r', (takeNote e n p).record i = some r' ∧ r'.successor = some k ∧ r'.state = r.state ∧
            r'.span = r.span ∧ r'.voices = r.voices ∧ r'.priority = r.priority ∧ r'.deadline = r.deadline ∧
            r'.holdKind = r.holdKind ∧
            r'.onTime = (if r.state = .scheduled then p.tracker.timeOf sp.start - BitVec.ofNat 32 v.transport
              else r.onTime) ∧
            (r.state = .held → r'.offTime = r.offTime) ∧
            (r.state ≠ .held → r'.offTime = some (later
              (earlier (p.tracker.timeOf sp.stop - BitVec.ofNat 32 v.transport - BitVec.ofNat 32 v.articulation) cut)
              (r'.onTime + BitVec.ofNat 32 e.organ.settings.minSpeak))))) ∧
        (hasCome e.clock on = true → stolen = false → r.state ≠ .scheduled →
          (∀ j x, j ≠ i → p.record j = some x → x.state ≠ .scheduled → x.division = n.division → x.key ≠ n.key) →
          (∀ j x, p.record j = some x → x.successor ≠ some k) →
          (takeNote e n p).record i = none ∧
          (takeNote e n p).counters = counted.modify 12 (fun k => min (k + 1) 65535) ∧
          ∃ r', (takeNote e n p).record k = some r' ∧ r'.state = .sounding ∧ r'.onTime = e.clock ∧
            r'.span = made.span ∧ r'.voices = made.voices ∧
            r'.deadline = some (r.deadline.getD (e.clock + BitVec.ofNat 32 e.organ.settings.cipherGuard))))) ∧
    ((∀ j x sx, p.record j = some x → x.span = some sx → x.division = n.division → x.key = n.key →
        sx.tag ≠ n.tag) →
      (p.freeSlot = none → (∀ j x, p.record j = some x → x.state ≠ .sounding ∨ x.origin = .planner) →
        takeNote e n p = { p with counters := p.counters.modify 11 (fun k => min (k + 1) 65535) }) ∧
      (∀ k, p.freeSlot = none → chosen k → takeNote e n p = takeNote e n { retire e k p with
        counters := p.counters.modify 10 (fun k => min (k + 1) 65535), latches := p.latches ||| 16384#19 }) ∧
      (∀ k, p.freeSlot = some k → hasCome e.clock on = false →
        takeNote e n p = { p with slots := p.slots.set k (some made) }) ∧
      (∀ k, p.freeSlot = some k → hasCome e.clock on = true → (∀ j x, p.record j = some x → x.successor ≠ some k) →
        ((∀ j x, p.record j = some x → x.state ≠ .scheduled → x.division = n.division → x.key ≠ n.key) →
          ∀ keyedOff, keyedOff = later
            (p.tracker.timeOf n.stop - BitVec.ofNat 32 v.transport - BitVec.ofNat 32 v.articulation)
            (e.clock + BitVec.ofNat 32 e.organ.settings.minSpeak) →
          takeNote e n p = { p with
            slots := p.slots.set k (some { made with
              state := .sounding, onTime := e.clock, offTime := some keyedOff
              deadline := some (e.clock + BitVec.ofNat 32 e.organ.settings.cipherGuard) })
            atOnce := p.atOnce ++ (if hasCome e.clock keyedOff then [.offTime k] else []) }) ∧
        (∀ j x, p.record j = some x → x.state ≠ .scheduled → x.division = n.division → x.key = n.key →
          (∀ l y, l ≠ j → p.record l = some y → y.state ≠ .scheduled → y.division = n.division → y.key ≠ n.key) →
          (takeNote e n p).record j = none ∧
          (takeNote e n p).counters = p.counters.modify 12 (fun k => min (k + 1) 65535) ∧
          ∃ r', (takeNote e n p).record k = some r' ∧ r'.state = .sounding ∧ r'.onTime = e.clock ∧
            r'.span = made.span ∧ r'.voices = made.voices ∧
            r'.deadline = some (x.deadline.getD (e.clock + BitVec.ofNat 32 e.organ.settings.cipherGuard)))))

/-- R155, R166: the re-timed slots. R156, R157: at its on time a SCHEDULED record is keyed: SOUNDING, at this tick,
with a deadline the cipher guard later and an off time at least the minimum speak time later; where another
record of its key is current, that one is retired, its deadline passes on, and REPEAT LOST is counted. A record
whose on time has not come is left. -/
def Obligations.RecordsAreTimedAndKeyed : Prop :=
  (∀ (e : Env) (tr : Tracker) (slots new : List (Option KeyRecord)) (i : Nat) (r : KeyRecord),
    slots[i]? = some (some r) → new = retimedSlots e tr slots →
    ((r.span = none ∨ r.state = .held) → new[i]? = some (some r)) ∧
    (∀ (sp : Span) (v : Division) (on plain : Tick), r.span = some sp → r.state ≠ .held →
      e.organ.division r.division = some v →
      on = (if r.state = .scheduled then tr.timeOf sp.start - BitVec.ofNat 32 v.transport else r.onTime) →
      plain = tr.timeOf sp.stop - BitVec.ofNat 32 v.transport - BitVec.ofNat 32 v.articulation →
      ∃ off, new[i]? = some (some { r with onTime := on, offTime := some off }) ∧
        (∀ j x, r.successor = some j → new[j]? = some (some x) → x.state = .scheduled →
          off = later (earlier plain (x.onTime - BitVec.ofNat 32 v.repeatGap))
            (on + BitVec.ofNat 32 e.organ.settings.minSpeak)) ∧
        ((∀ j x, r.successor = some j → new[j]? = some (some x) → x.state ≠ .scheduled) →
          off = later plain (on + BitVec.ofNat 32 e.organ.settings.minSpeak)))) ∧
  (∀ (i : Nat) (s : State), Awake s →
    (onTimeDue s.toEnv s.play i = false → Settled s → exec (.onTimeExpiry i) s = .next s) ∧
    (∀ (r : KeyRecord) (sp : Span), s.play.record i = some r → r.state = .scheduled → r.span = some sp →
      hasCome s.clock r.onTime = true →
      ((∀ j x, j ≠ i → s.play.record j = some x → x.state ≠ .scheduled → x.division = r.division →
          x.key ≠ r.key) →
        (∀ j x, s.play.record j = some x → x.successor ≠ some i) →
        ∃ off, 0 ≤ timeDiff off (s.clock + BitVec.ofNat 32 s.organ.settings.minSpeak) ∧
          exec (.onTimeExpiry i) s = .next (afterwards s { s.play with
            slots := s.play.slots.set i (some { r with
              state := .sounding
              onTime := s.clock
              deadline := some (s.clock + BitVec.ofNat 32 s.organ.settings.cipherGuard)
              offTime := some off })
            atOnce := s.play.atOnce ++ (if hasCome s.clock off then [.offTime i] else []) })) ∧
      (∀ (j : Nat) (x : KeyRecord), j ≠ i → s.play.record j = some x → x.state ≠ .scheduled →
        x.division = r.division → x.key = r.key →
        (∀ k y, k ≠ i → k ≠ j → s.play.record k = some y → y.state ≠ .scheduled → y.division = r.division →
          y.key ≠ r.key) →
        ∃ q, exec (.onTimeExpiry i) s = .next (afterwards s q) ∧ q = keyRecord s.toEnv i s.play ∧
          q.record j = none ∧ q.counters = s.play.counters.modify 12 (fun n => min (n + 1) 65535) ∧
          ∃ r', q.record i = some r' ∧ r'.state = .sounding ∧ r'.onTime = s.clock ∧ r'.span = r.span ∧
            r'.voices = r.voices ∧ r'.deadline =
              some (x.deadline.getD (s.clock + BitVec.ofNat 32 s.organ.settings.cipherGuard)))))

/-- R158, R169: a SOUNDING record is retired at its off time, and a current one at its deadline with counter and
latch CIPHER GUARD: its slot is free, its predecessor loses the link, and the reader tests for the section's
end when no other record holds its tag. An expiry that has not come does nothing. -/
def Obligations.RecordsAreRetired : Prop :=
  (∀ (i : Nat) (s : State), Awake s →
    (offTimeDue s.toEnv s.play i = false → Settled s → exec (.offTimeExpiry i) s = .next s) ∧
    (deadlineDue s.toEnv s.play i = false → Settled s → exec (.deadlineExpiry i) s = .next s) ∧
    (∀ (r : KeyRecord) (test : List Due), s.play.record i = some r →
      (∀ j x, s.play.record j = some x → x.successor ≠ some i) →
      ((∃ sp, r.span = some sp ∧
        ∀ j x sx, j ≠ i → s.play.record j = some x → x.span = some sx → sx.tag ≠ sp.tag) →
        test = [.sectionTest]) →
      (¬ (∃ sp, r.span = some sp ∧
        ∀ j x sx, j ≠ i → s.play.record j = some x → x.span = some sx → sx.tag ≠ sp.tag) → test = []) →
      (∀ u, r.state = .sounding → r.offTime = some u → hasCome s.clock u = true →
        exec (.offTimeExpiry i) s = .next (afterwards s { s.play with
          slots := s.play.slots.set i none, atOnce := s.play.atOnce ++ test })) ∧
      (∀ u, r.state ≠ .scheduled → r.deadline = some u → hasCome s.clock u = true →
        exec (.deadlineExpiry i) s = .next (afterwards s { s.play with
          slots := s.play.slots.set i none, atOnce := s.play.atOnce ++ test
          counters := s.play.counters.modify 13 (fun n => min (n + 1) 65535)
          latches := s.play.latches ||| 8192#19 })))) ∧
  (∀ (e : Env) (i j : Nat) (p : Play) (r x : KeyRecord), p.record i = some r → j ≠ i → p.record j = some x →
    x.successor = some i → (∀ k y, k ≠ j → p.record k = some y → y.successor ≠ some i) →
    (retire e i p).record i = none ∧ (∀ k, k ≠ i → k ≠ j → (retire e i p).record k = p.record k) ∧
    ∃ x', (retire e i p).record j = some x' ∧ x'.successor = none ∧ x'.state = x.state ∧ x'.span = x.span ∧
      x'.deadline = x.deadline)

/-- R170 to R173: KEY SOUND with its tests in order and the record it makes; KEY RELEASE retires the record of a
slot or the current one of a key; KEY HOLD makes a current record HELD by the host; KEY LOOKUP and KEY LIST
change nothing: the record they answer with, and their refusals. -/
def Obligations.HostKeyRequests : Prop :=
  (∀ (d k duration : Nat) (s : State), Ready s →
    (3 < d → exec (.keySound d k duration) s = .next { s with link := rejectLink s 0x32 .badArgument 1 }) ∧
    (d ≤ 3 →
      (s.toEnv.presentDivision d = none →
        exec (.keySound d k duration) s = .next { s with link := rejectLink s 0x32 .notFound 0 }) ∧
      (∀ v, s.toEnv.presentDivision d = some v →
        ((k < v.lowest ∨ v.lowest + v.keys - 1 < k) →
          exec (.keySound d k duration) s = .next { s with link := rejectLink s 0x32 .badArgument 2 }) ∧
        (v.lowest ≤ k → k ≤ v.lowest + v.keys - 1 →
          (∀ i, s.play.currentSlot d k = some i →
            exec (.keySound d k duration) s = .next { s with link := rejectLink s 0x32 .inUse i }) ∧
          (s.play.currentSlot d k = none →
            (s.play.freeSlot = none →
              exec (.keySound d k duration) s = .next { s with link := rejectLink s 0x32 .full 0 }) ∧
            (∀ (i stored : Nat) (r : KeyRecord), s.play.freeSlot = some i →
              stored = min (max 10 (min duration 60000)) s.organ.settings.cipherGuard →
              r = { division := d, key := k, state := .sounding, origin := .planner, voices := 0, priority := 3
                    span := none, onTime := s.clock
                    offTime := some (s.clock + BitVec.ofNat 32 (max stored s.organ.settings.minSpeak))
                    deadline := some (s.clock + BitVec.ofNat 32 s.organ.settings.cipherGuard)
                    successor := none, holdKind := none } →
              exec (.keySound d k duration) s = .next { s with
                play := { s.play with slots := s.play.slots.set i (some r) }
                link := replyLink s 0x32 (putKeyRecord i r ++ putNum 2 stored) })))))) ∧
  (∀ (n : Nat) (s : State), Ready s →
    (127 < n →
      exec (.keyRelease (.bySlot n)) s = .next { s with link := rejectLink s 0x33 .badArgument 0 } ∧
      exec (.keyLookup (.bySlot n)) s = .next { s with link := rejectLink s 0x30 .badArgument 0 } ∧
      exec (.keyHold n) s = .next { s with link := rejectLink s 0x34 .badArgument 0 }) ∧
    (n ≤ 127 → s.play.record n = none →
      exec (.keyRelease (.bySlot n)) s = .next { s with link := rejectLink s 0x33 .notFound 0 } ∧
      exec (.keyLookup (.bySlot n)) s = .next { s with link := rejectLink s 0x30 .notFound 0 } ∧
      exec (.keyHold n) s = .next { s with link := rejectLink s 0x34 .notFound 0 }) ∧
    (∀ r, n ≤ 127 → s.play.record n = some r →
      exec (.keyRelease (.bySlot n)) s = .next { afterwards s (retire s.toEnv n s.play) with
        link := replyLink s 0x33 (putNum 1 n ++ putNum 1 r.origin.code ++ putNum 1 r.state.code) } ∧
      exec (.keyLookup (.bySlot n)) s = .next { s with
        link := replyLink s 0x30 (putKeyLookup s.toEnv s.play n r) } ∧
      (r.state = .scheduled →
        exec (.keyHold n) s = .next { s with link := rejectLink s 0x34 .notReady 0 }) ∧
      (r.state ≠ .scheduled → ∀ r' : KeyRecord,
        r' = { r with state := .held, holdKind := some .host, offTime := none } →
        exec (.keyHold n) s = .next { s with
          play := { s.play with slots := s.play.slots.set n (some r') }
          link := replyLink s 0x34 (putKeyRecord n r') }))) ∧
  (∀ (d k : Nat) (s : State), Ready s →
    (3 < d →
      exec (.keyRelease (.byKey d k)) s = .next { s with link := rejectLink s 0x33 .badArgument 0 } ∧
      exec (.keyLookup (.byKey d k)) s = .next { s with link := rejectLink s 0x30 .badArgument 0 }) ∧
    (d ≤ 3 → s.play.currentSlot d k = none →
      exec (.keyRelease (.byKey d k)) s = .next { s with link := rejectLink s 0x33 .notFound 0 } ∧
      ((∀ i r, s.play.record i = some r → r.division = d → r.key ≠ k) →
        exec (.keyLookup (.byKey d k)) s = .next { s with link := rejectLink s 0x30 .notFound 0 }) ∧
      (∀ i r, s.play.record i = some r → r.division = d → r.key = k →
        (∀ j x, j ≠ i → s.play.record j = some x → x.division = d → x.key = k →
          isAfter x.onTime r.onTime = true) →
        exec (.keyLookup (.byKey d k)) s = .next { s with
          link := replyLink s 0x30 (putKeyLookup s.toEnv s.play i r) })) ∧
    (∀ i r, d ≤ 3 → s.play.currentSlot d k = some i → s.play.record i = some r →
      exec (.keyRelease (.byKey d k)) s = .next { afterwards s (retire s.toEnv i s.play) with
        link := replyLink s 0x33 (putNum 1 i ++ putNum 1 r.origin.code ++ putNum 1 r.state.code) } ∧
      exec (.keyLookup (.byKey d k)) s = .next { s with
        link := replyLink s 0x30 (putKeyLookup s.toEnv s.play i r) })) ∧
  (∀ (form : Byte) (rest : List Byte) (start : Option Nat) (s : State), Ready s →
    exec (.keyRelease (.badForm form rest)) s = .next { s with link := rejectLink s 0x33 .badArgument 0 } ∧
    exec (.keyLookup (.badForm form rest)) s = .next { s with link := rejectLink s 0x30 .badArgument 0 } ∧
    exec (.keyList start) s = .next { s with
      link := if 127 < start.getD 0 then rejectLink s 0x31 .badArgument 0
        else replyLink s 0x31 (putKeyList s.play (start.getD 0)) })

/-! ### Stop Action and Swell -/

/-- R181 to R183, R185, R186: STOPS APPLY with its refusals. What a request does to a stop by its action state:
at rest it is DONE when it stands as desired and else begins a pulse; PULSING it takes the new desire;
SETTLING it goes on, or begins a pulse the other way. With no apply in flight a new one starts; else the one in
flight is retargeted: the start tick, the pulses begun, the fault count and a reader waiting mark that is set stay as
they are, and the mark becomes set by a request of the Score Reader (R136). It completes at once, with latch APPLY DONE, when every stop it has taken up is DONE or FAULT:
those are the stops of the PRESENT divisions that hold a desired state, as many as the apply record counts (log 36).
The pulses begun stay at 65,535 (log 45), and the reply's apply record is read after the completion and all that
follows at the tick (log 26). -/
def Obligations.StopsApplyTakesStopsUp : Prop :=
  (∀ (e : Env) (want : Bool) (r pulsed : StopRecord),
    pulsed = { r with
      handSet := false, action := .pulsing, desired := some want, drive := some (if want then .on else .off)
      pulseEnd := some (e.clock + BitVec.ofNat 32 e.organ.settings.pulseTime)
      timeout := some (later (e.clock + BitVec.ofNat 32 e.organ.settings.stopTimeout)
        (e.clock + BitVec.ofNat 32 e.organ.settings.pulseTime + 4#32)) } →
    (r.action = .pulsing → retargetStop e want r = { r with handSet := false, desired := some want }) ∧
    (r.action = .settling → r.desired = some want → retargetStop e want r = { r with handSet := false }) ∧
    (r.action = .settling → r.desired ≠ some want → retargetStop e want r = pulsed) ∧
    (r.action ≠ .pulsing → r.action ≠ .settling →
      (r.cause = none → r.sense = some want →
        retargetStop e want r = { r with handSet := false, desired := some want, action := .done }) ∧
      ((r.cause ≠ none ∨ r.sense ≠ some want) → retargetStop e want r = { pulsed with
        cause := if r.cause = some .abandoned then none else r.cause }))) ∧
  (∀ (e : Env) (p : Play), applyDone e p = true ↔
    (∀ d i r, p.stop d i = some r → (e.presentDivision d).isSome = true → r.desired.isSome = true →
      r.action = .done ∨ r.action = .fault) ∧
    p.countStops (fun d _ r => (e.presentDivision d).isSome && r.desired.isSome) = p.apply.taken) ∧
  (∀ (reg : Nat) (origin : ApplyOrigin) (want : Nat → Nat → Bool) (base a : Apply) (e : Env) (p q q' : Play),
    (∀ d i, want d i = ((e.registration reg).divisions[d]?).any (fun en => en.drawn.getLsbD i)) →
    (p.apply.state = .inFlight → base = { p.apply with
      registration := some reg, origin := some origin
      readerWaiting := if origin = .reader then true else p.apply.readerWaiting }) →
    (p.apply.state ≠ .inFlight →
      base = { state := .inFlight, registration := some reg, origin := some origin, startTick := some e.clock
               endTick := none, taken := 0, pulses := 0, faults := 0, readerWaiting := decide (origin = .reader) }) →
    a = { base with
      taken := p.countStops (fun d _ _ => (e.presentDivision d).isSome)
      pulses := min (base.pulses + p.countStops (fun d i r =>
        (e.presentDivision d).isSome && beginsPulse (want d i) r)) 65535 } →
    q = { p.mapStops (fun d i r =>
      if (e.presentDivision d).isSome = true then retargetStop e (want d i) r else r) with apply := a } →
    q' = { q with
      apply := { a with state := .complete, endTick := some e.clock, readerWaiting := false }
      latches := p.latches ||| 32768#19 } →
    (applyDone e q = false → requestApply e reg origin p = q) ∧
    (applyDone e q = true → p.reader.flow ≠ .preparing → requestApply e reg origin p = q') ∧
    (applyDone e q = true → p.reader.flow = .preparing → requestApply e reg origin p = beginGap e q')) ∧
  (∀ (reg : Nat) (s : State), Ready s →
    (31 < reg → exec (.stopsApply reg) s = .next { s with link := rejectLink s 0x38 .badArgument 0 }) ∧
    (reg ≤ 31 → s.chain.phase ≠ .running →
      exec (.stopsApply reg) s = .next { s with link := rejectLink s 0x38 .notReady 0 }) ∧
    (∀ (want : Nat → Nat → Bool) (base a : Apply) (q q' : Play) (t : State), reg ≤ 31 →
      s.chain.phase = .running →
      (∀ d i, want d i = ((s.toEnv.registration reg).divisions[d]?).any (fun en => en.drawn.getLsbD i)) →
      (s.play.apply.state = .inFlight →
        base = { s.play.apply with registration := some reg, origin := some .host }) →
      (s.play.apply.state ≠ .inFlight →
        base = { state := .inFlight, registration := some reg, origin := some .host, startTick := some s.clock
                 endTick := none, taken := 0, pulses := 0, faults := 0, readerWaiting := false }) →
      a = { base with
        taken := s.play.countStops (fun d _ _ => (s.toEnv.presentDivision d).isSome)
        pulses := min (base.pulses + s.play.countStops (fun d i r =>
          (s.toEnv.presentDivision d).isSome && beginsPulse (want d i) r)) 65535 } →
      q = { s.play.mapStops (fun d i r =>
        if (s.toEnv.presentDivision d).isSome = true then retargetStop s.toEnv (want d i) r else r) with
        apply := a } →
      q' = { q with
        apply := { a with state := .complete, endTick := some s.clock, readerWaiting := false }
        latches := s.play.latches ||| 32768#19 } →
      (applyDone s.toEnv q = false → Settled s → exec (.stopsApply reg) s = .next { s with
        play := q, link := replyLink s 0x38 (putApply a) }) ∧
      (applyDone s.toEnv q = true → s.play.reader.flow ≠ .preparing → Settled s →
        exec (.stopsApply reg) s = .next { s with
          play := q', link := replyLink s 0x38 (putApply q'.apply) }) ∧
      (applyDone s.toEnv q = true → s.play.reader.flow = .preparing →
        t = afterwards s (beginGap s.toEnv q') → exec (.stopsApply reg) s = .next { t with
          link := replyLink s 0x38 (putApply t.play.apply) })))

/-- R137, R179, R180, R183 to R186: at a pulse end the drive ends: the stop settles when it was driven as desired,
and else is pulsed the other way. A stop still SETTLING at its timeout is FAULT, counted and latched, and the
apply may complete, on which a reader that is PREPARING begins its gap. A sense bit gives an UNREAD stop its
drawn state, completes a SETTLING one that agrees, and marks a stop at rest as hand-set when it differs: ScanCompletes
says that every scan gives every stop its bit so. Which stops the completion waits for is the model's deduction
(log 36), the fault count stays at 64 and the pulses begun at 65,535 (log 45), and an ABANDONED stop takes no mark
(log 49). An expiry that has not come does nothing. -/
def Obligations.PulsesTimeoutsAndSense : Prop :=
  (∀ (d i : Nat) (s : State), Awake s →
    (pulseEndDue s.toEnv s.play d i = false → Settled s → exec (.pulseEndExpiry d i) s = .next s) ∧
    (timeoutDue s.toEnv s.play d i = false → Settled s → exec (.stopTimeoutExpiry d i) s = .next s) ∧
    (∀ (r : StopRecord) (want : Bool) (u : Tick), Settled s → s.play.stop d i = some r → r.action = .pulsing →
      r.pulseEnd = some u → hasCome s.clock u = true → r.desired = some want →
      (r.drive = some (if want then .on else .off) → exec (.pulseEndExpiry d i) s = .next { s with
        play := s.play.setStop d i { r with action := .settling, drive := none, pulseEnd := none } }) ∧
      (r.drive ≠ some (if want then .on else .off) → exec (.pulseEndExpiry d i) s = .next { s with
        play := { s.play.setStop d i { r with
            drive := some (if want then .on else .off)
            pulseEnd := some (s.clock + BitVec.ofNat 32 s.organ.settings.pulseTime)
            timeout := some (later (s.clock + BitVec.ofNat 32 s.organ.settings.stopTimeout)
              (s.clock + BitVec.ofNat 32 s.organ.settings.pulseTime + 4#32)) } with
          apply := { s.play.apply with pulses := min (s.play.apply.pulses + 1) 65535 } } })) ∧
    (∀ (r : StopRecord) (u : Tick) (q q' : Play), s.play.stop d i = some r → r.action = .settling →
      r.timeout = some u → hasCome s.clock u = true →
      q = { s.play.setStop d i { r with action := .fault, timeout := none } with
        apply := { s.play.apply with faults := min (s.play.apply.faults + 1) 64 }
        counters := s.play.counters.modify 14 (fun n => min (n + 1) 65535)
        latches := s.play.latches ||| 65536#19 } →
      q' = { q with
        apply := { q.apply with state := .complete, endTick := some s.clock, readerWaiting := false }
        latches := q.latches ||| 32768#19 } →
      ((s.play.apply.state ≠ .inFlight ∨ applyDone s.toEnv q = false) → Settled s →
        exec (.stopTimeoutExpiry d i) s = .next { s with play := q }) ∧
      (s.play.apply.state = .inFlight → applyDone s.toEnv q = true →
        (s.play.reader.flow ≠ .preparing → Settled s →
          exec (.stopTimeoutExpiry d i) s = .next { s with play := q' }) ∧
        (s.play.reader.flow = .preparing →
          exec (.stopTimeoutExpiry d i) s = .next (afterwards s (beginGap s.toEnv q')))))) ∧
  (∀ (e : Env) (p : Play),
    (∀ item plan sec, e.playingItem p = some item → p.reader.plan = some plan → p.reader.section = some sec →
      ∀ g, g = (sectionGap item plan sec * p.tracker.period + 30720) / 61440 →
      (g = 0 → beginGap e p = startSection e p) ∧
      (0 < g → beginGap e p = { p with
        reader := { p.reader with flow := .gap, gapEnd := some (e.clock + BitVec.ofNat 32 g) } }))) ∧
  (∀ (bit : Bool) (r : StopRecord),
    (r.cause = some .abandoned → senseStop bit r = { r with sense := some bit }) ∧
    (r.action ≠ .settling →
      (r.cause = some .unread → senseStop bit r = { r with sense := some bit, cause := none }) ∧
      (r.cause = none → senseStop bit r = { r with
        sense := some bit
        handSet := if (r.action = .idle ∨ r.action = .done) ∧ r.sense = some (!bit) then true else r.handSet })) ∧
    (r.action = .settling → r.cause ≠ some .abandoned →
      (r.desired = some bit →
        senseStop bit r = { r with sense := some bit, cause := none, action := .done, timeout := none }) ∧
      (r.desired ≠ some bit → senseStop bit r = { r with sense := some bit, cause := none })))

/-- R188, R190 to R192: STOPS QUERY with its refusals, which changes nothing; SWELL PUT stores its slew clamped;
an update that is due moves each output that follows toward its target by its slew at most, and leaves one
that does not; the target lies between the entry's bounds and follows the choir level; a period that is due
reads each duty, and an output is high for the duty times 20,000 divided by 1,024 microseconds of it. The choir level
(R83) and the registration in force (R64). An event that is not due does nothing (the first update and period:
log 20; a starting index beyond the stops: log 46). -/
def Obligations.StopsQueryAndSwell : Prop :=
  (∀ (d : Nat) (start : Option Nat) (s : State), Ready s → exec (.stopsQuery d start) s = .next { s with
    link := if 3 < d then rejectLink s 0x39 .badArgument 0
      else if s.organ.division d = none then rejectLink s 0x39 .notFound 0
      else replyLink s 0x39 (putStopsQuery s.play.apply (s.play.stops.getD d []) s.swell.outputs (start.getD 0)
        s.clock) }) ∧
  (∀ (output slew : Nat) (s : State), Ready s →
    (s.swell.outputs[output]? = none →
      exec (.swellPut output slew) s = .next { s with link := rejectLink s 0x3A .badArgument 0 }) ∧
    (∀ o, s.swell.outputs[output]? = some o → exec (.swellPut output slew) s = .next { s with
      swell := { s.swell with outputs := s.swell.outputs.set output { o with slew := max 1 (min slew 255) } }
      link := replyLink s 0x3A (putNum 1 output ++ putNum 1 (max 1 (min slew 255)) ++ putNum 2 o.duty) })) ∧
  (∀ s : State, Awake s →
    (hasCome s.clock s.swell.nextUpdate = false → exec .swellUpdate s = .next s) ∧
    (hasCome s.clock s.swell.nextUpdate = true → ∃ outputs : List SwellOutput,
      exec .swellUpdate s = .next { s with
        swell := { outputs := outputs, nextUpdate := s.swell.nextUpdate + 100#32, nextPeriod := s.swell.nextPeriod } } ∧
      outputs.length = s.swell.outputs.length ∧
      (∀ i o, s.swell.outputs[i]? = some o → ∃ o', outputs[i]? = some o' ∧ o'.slew = o.slew ∧
        o'.driven = o.driven ∧
        ((s.organ.swellDivision i = none ∨ s.toEnv.inForce s.play = none ∨ s.listening.choirLevel = none) →
          o' = o) ∧
        (∀ d r L en target, s.organ.swellDivision i = some d → s.toEnv.inForce s.play = some r →
          s.listening.choirLevel = some L → (s.toEnv.registration r).divisions[d]? = some en →
          target = swellTarget s.organ.settings en L →
          o'.target = some target ∧
          (o.duty ≤ target → o'.duty = min target (o.duty + o.slew)) ∧
          (target < o.duty → o'.duty = max target (o.duty - o.slew))))) ∧
    (hasCome s.clock s.swell.nextPeriod = false → exec .swellPeriodStart s = .next s) ∧
    (hasCome s.clock s.swell.nextPeriod = true → exec .swellPeriodStart s = .next { s with
      swell := { s.swell with
        outputs := s.swell.outputs.map (fun o => { o with driven := o.duty })
        nextPeriod := s.swell.nextPeriod + 20#32 } })) ∧
  (∀ (t : Settings) (en : DivisionEntry) (L : Nat), en.least ≤ en.greatest → t.levelLow ≤ t.levelHigh →
    (L ≤ t.levelLow → swellTarget t en L = en.least) ∧
    (t.levelLow < L → t.levelHigh ≤ L → swellTarget t en L = en.greatest) ∧
    (t.levelLow < L → L < t.levelHigh → swellTarget t en L =
      en.least + (en.greatest - en.least) * (L - t.levelLow) / (t.levelHigh - t.levelLow)) ∧
    en.least ≤ swellTarget t en L ∧ swellTarget t en L ≤ en.greatest) ∧
  (∀ o : SwellOutput, o.highMicroseconds = o.driven * 20000 / 1024 ∧ (o.driven = 0 → o.highMicroseconds = 0) ∧
    (o.driven = 1023 → o.highMicroseconds = 19980)) ∧
  (∀ (o : Organ) (i d : Nat), o.swellDivision i = some d ↔ (∃ v, o.division d = some v ∧ v.swell = some i) ∧
    ∀ d' v, d' < d → o.division d' = some v → v.swell ≠ some i) ∧
  (∀ l : Listening,
    ((∀ c, c < 4 → l.live c = false) → l.choirLevel = none) ∧
    (∀ c ch, c < 4 → l.live c = true → l.channels[c]? = some ch →
      (∀ c' ch', c' < 4 → l.live c' = true → l.channels[c']? = some ch' → ch'.level ≤ ch.level) →
      l.choirLevel = some ch.level)) ∧
  (∀ (e : Env) (p : Play),
    ((p.reader.flow = .idle ∨ p.reader.flow = .waiting) → e.inForce p = none) ∧
    (∀ item sec, p.reader.flow ≠ .idle → p.reader.flow ≠ .waiting → e.playingItem p = some item →
      p.reader.section = some sec → e.inForce p = some (sectionRegistration item sec)))
end

