-- ==== Sys2Proof/Laws/State.lean ====
section
/-! SUPPORT. What each update of the state leaves in each field: one lemma a field an update, all true by
unfolding, so that no later proof unfolds a record update. -/

namespace Sys2Proof.Machine

/-! ### setMatcher -/

@[simp] theorem Play.setMatcher_latches (p : Play) (m : Matcher) : (p.setMatcher m).latches = p.latches := rfl
@[simp] theorem Play.setMatcher_counters (p : Play) (m : Matcher) : (p.setMatcher m).counters = p.counters := rfl
@[simp] theorem Play.setMatcher_cursor (p : Play) (m : Matcher) : (p.setMatcher m).cursor = p.cursor := rfl
@[simp] theorem Play.setMatcher_inUse (p : Play) (m : Matcher) : (p.setMatcher m).inUse = p.inUse := rfl
@[simp] theorem Play.setMatcher_matcher (p : Play) (m : Matcher) : (p.setMatcher m).matcher = m := rfl
@[simp] theorem Play.setMatcher_tracker (p : Play) (m : Matcher) : (p.setMatcher m).tracker = p.tracker := rfl
@[simp] theorem Play.setMatcher_reader (p : Play) (m : Matcher) : (p.setMatcher m).reader = p.reader := rfl
@[simp] theorem Play.setMatcher_slots (p : Play) (m : Matcher) : (p.setMatcher m).slots = p.slots := rfl
@[simp] theorem Play.setMatcher_stops (p : Play) (m : Matcher) : (p.setMatcher m).stops = p.stops := rfl
@[simp] theorem Play.setMatcher_apply (p : Play) (m : Matcher) : (p.setMatcher m).apply = p.apply := rfl
@[simp] theorem Play.setMatcher_atOnce (p : Play) (m : Matcher) : (p.setMatcher m).atOnce = p.atOnce := rfl

/-! ### latch -/

@[simp] theorem Play.latch_latches (p : Play) (l : Latch) : (p.latch l).latches = p.latches ||| BitVec.twoPow 19 l.bit := rfl
@[simp] theorem Play.latch_counters (p : Play) (l : Latch) : (p.latch l).counters = p.counters := rfl
@[simp] theorem Play.latch_cursor (p : Play) (l : Latch) : (p.latch l).cursor = p.cursor := rfl
@[simp] theorem Play.latch_inUse (p : Play) (l : Latch) : (p.latch l).inUse = p.inUse := rfl
@[simp] theorem Play.latch_matcher (p : Play) (l : Latch) : (p.latch l).matcher = p.matcher := rfl
@[simp] theorem Play.latch_tracker (p : Play) (l : Latch) : (p.latch l).tracker = p.tracker := rfl
@[simp] theorem Play.latch_reader (p : Play) (l : Latch) : (p.latch l).reader = p.reader := rfl
@[simp] theorem Play.latch_slots (p : Play) (l : Latch) : (p.latch l).slots = p.slots := rfl
@[simp] theorem Play.latch_stops (p : Play) (l : Latch) : (p.latch l).stops = p.stops := rfl
@[simp] theorem Play.latch_apply (p : Play) (l : Latch) : (p.latch l).apply = p.apply := rfl
@[simp] theorem Play.latch_atOnce (p : Play) (l : Latch) : (p.latch l).atOnce = p.atOnce := rfl

/-! ### count -/

@[simp] theorem Play.count_latches (p : Play) (c : Counter) : (p.count c).latches = p.latches := rfl
@[simp] theorem Play.count_counters (p : Play) (c : Counter) : (p.count c).counters = p.counters.modify c.index (fun n => min (n + 1) Config.counterLimit) := rfl
@[simp] theorem Play.count_cursor (p : Play) (c : Counter) : (p.count c).cursor = p.cursor := rfl
@[simp] theorem Play.count_inUse (p : Play) (c : Counter) : (p.count c).inUse = p.inUse := rfl
@[simp] theorem Play.count_matcher (p : Play) (c : Counter) : (p.count c).matcher = p.matcher := rfl
@[simp] theorem Play.count_tracker (p : Play) (c : Counter) : (p.count c).tracker = p.tracker := rfl
@[simp] theorem Play.count_reader (p : Play) (c : Counter) : (p.count c).reader = p.reader := rfl
@[simp] theorem Play.count_slots (p : Play) (c : Counter) : (p.count c).slots = p.slots := rfl
@[simp] theorem Play.count_stops (p : Play) (c : Counter) : (p.count c).stops = p.stops := rfl
@[simp] theorem Play.count_apply (p : Play) (c : Counter) : (p.count c).apply = p.apply := rfl
@[simp] theorem Play.count_atOnce (p : Play) (c : Counter) : (p.count c).atOnce = p.atOnce := rfl

/-! ### countMany -/

@[simp] theorem Play.countMany_latches (p : Play) (c : Counter) (n : Nat) : (p.countMany c n).latches = p.latches := rfl
@[simp] theorem Play.countMany_counters (p : Play) (c : Counter) (n : Nat) : (p.countMany c n).counters = p.counters.modify c.index (fun m => min (m + n) Config.counterLimit) := rfl
@[simp] theorem Play.countMany_cursor (p : Play) (c : Counter) (n : Nat) : (p.countMany c n).cursor = p.cursor := rfl
@[simp] theorem Play.countMany_inUse (p : Play) (c : Counter) (n : Nat) : (p.countMany c n).inUse = p.inUse := rfl
@[simp] theorem Play.countMany_matcher (p : Play) (c : Counter) (n : Nat) : (p.countMany c n).matcher = p.matcher := rfl
@[simp] theorem Play.countMany_tracker (p : Play) (c : Counter) (n : Nat) : (p.countMany c n).tracker = p.tracker := rfl
@[simp] theorem Play.countMany_reader (p : Play) (c : Counter) (n : Nat) : (p.countMany c n).reader = p.reader := rfl
@[simp] theorem Play.countMany_slots (p : Play) (c : Counter) (n : Nat) : (p.countMany c n).slots = p.slots := rfl
@[simp] theorem Play.countMany_stops (p : Play) (c : Counter) (n : Nat) : (p.countMany c n).stops = p.stops := rfl
@[simp] theorem Play.countMany_apply (p : Play) (c : Counter) (n : Nat) : (p.countMany c n).apply = p.apply := rfl
@[simp] theorem Play.countMany_atOnce (p : Play) (c : Counter) (n : Nat) : (p.countMany c n).atOnce = p.atOnce := rfl

/-! ### push -/

@[simp] theorem Play.push_latches (p : Play) (d : Due) : (p.push d).latches = p.latches := rfl
@[simp] theorem Play.push_counters (p : Play) (d : Due) : (p.push d).counters = p.counters := rfl
@[simp] theorem Play.push_cursor (p : Play) (d : Due) : (p.push d).cursor = p.cursor := rfl
@[simp] theorem Play.push_inUse (p : Play) (d : Due) : (p.push d).inUse = p.inUse := rfl
@[simp] theorem Play.push_matcher (p : Play) (d : Due) : (p.push d).matcher = p.matcher := rfl
@[simp] theorem Play.push_tracker (p : Play) (d : Due) : (p.push d).tracker = p.tracker := rfl
@[simp] theorem Play.push_reader (p : Play) (d : Due) : (p.push d).reader = p.reader := rfl
@[simp] theorem Play.push_slots (p : Play) (d : Due) : (p.push d).slots = p.slots := rfl
@[simp] theorem Play.push_stops (p : Play) (d : Due) : (p.push d).stops = p.stops := rfl
@[simp] theorem Play.push_apply (p : Play) (d : Due) : (p.push d).apply = p.apply := rfl
@[simp] theorem Play.push_atOnce (p : Play) (d : Due) : (p.push d).atOnce = p.atOnce ++ [d] := rfl

/-! ### setRec -/

@[simp] theorem Play.setRec_latches (p : Play) (i : Nat) (r : Option KeyRecord) : (p.setRec i r).latches = p.latches := rfl
@[simp] theorem Play.setRec_counters (p : Play) (i : Nat) (r : Option KeyRecord) : (p.setRec i r).counters = p.counters := rfl
@[simp] theorem Play.setRec_cursor (p : Play) (i : Nat) (r : Option KeyRecord) : (p.setRec i r).cursor = p.cursor := rfl
@[simp] theorem Play.setRec_inUse (p : Play) (i : Nat) (r : Option KeyRecord) : (p.setRec i r).inUse = p.inUse := rfl
@[simp] theorem Play.setRec_matcher (p : Play) (i : Nat) (r : Option KeyRecord) : (p.setRec i r).matcher = p.matcher := rfl
@[simp] theorem Play.setRec_tracker (p : Play) (i : Nat) (r : Option KeyRecord) : (p.setRec i r).tracker = p.tracker := rfl
@[simp] theorem Play.setRec_reader (p : Play) (i : Nat) (r : Option KeyRecord) : (p.setRec i r).reader = p.reader := rfl
@[simp] theorem Play.setRec_slots (p : Play) (i : Nat) (r : Option KeyRecord) : (p.setRec i r).slots = p.slots.set i r := rfl
@[simp] theorem Play.setRec_stops (p : Play) (i : Nat) (r : Option KeyRecord) : (p.setRec i r).stops = p.stops := rfl
@[simp] theorem Play.setRec_apply (p : Play) (i : Nat) (r : Option KeyRecord) : (p.setRec i r).apply = p.apply := rfl
@[simp] theorem Play.setRec_atOnce (p : Play) (i : Nat) (r : Option KeyRecord) : (p.setRec i r).atOnce = p.atOnce := rfl

/-! ### setStop -/

@[simp] theorem Play.setStop_latches (p : Play) (d i : Nat) (r : StopRecord) : (p.setStop d i r).latches = p.latches := rfl
@[simp] theorem Play.setStop_counters (p : Play) (d i : Nat) (r : StopRecord) : (p.setStop d i r).counters = p.counters := rfl
@[simp] theorem Play.setStop_cursor (p : Play) (d i : Nat) (r : StopRecord) : (p.setStop d i r).cursor = p.cursor := rfl
@[simp] theorem Play.setStop_inUse (p : Play) (d i : Nat) (r : StopRecord) : (p.setStop d i r).inUse = p.inUse := rfl
@[simp] theorem Play.setStop_matcher (p : Play) (d i : Nat) (r : StopRecord) : (p.setStop d i r).matcher = p.matcher := rfl
@[simp] theorem Play.setStop_tracker (p : Play) (d i : Nat) (r : StopRecord) : (p.setStop d i r).tracker = p.tracker := rfl
@[simp] theorem Play.setStop_reader (p : Play) (d i : Nat) (r : StopRecord) : (p.setStop d i r).reader = p.reader := rfl
@[simp] theorem Play.setStop_slots (p : Play) (d i : Nat) (r : StopRecord) : (p.setStop d i r).slots = p.slots := rfl
@[simp] theorem Play.setStop_stops (p : Play) (d i : Nat) (r : StopRecord) : (p.setStop d i r).stops = p.stops.modify d (fun l => l.set i r) := rfl
@[simp] theorem Play.setStop_apply (p : Play) (d i : Nat) (r : StopRecord) : (p.setStop d i r).apply = p.apply := rfl
@[simp] theorem Play.setStop_atOnce (p : Play) (d i : Nat) (r : StopRecord) : (p.setStop d i r).atOnce = p.atOnce := rfl

/-! ### mapStops -/

@[simp] theorem Play.mapStops_latches (p : Play) (f : Nat → Nat → StopRecord → StopRecord) : (p.mapStops f).latches = p.latches := rfl
@[simp] theorem Play.mapStops_counters (p : Play) (f : Nat → Nat → StopRecord → StopRecord) : (p.mapStops f).counters = p.counters := rfl
@[simp] theorem Play.mapStops_cursor (p : Play) (f : Nat → Nat → StopRecord → StopRecord) : (p.mapStops f).cursor = p.cursor := rfl
@[simp] theorem Play.mapStops_inUse (p : Play) (f : Nat → Nat → StopRecord → StopRecord) : (p.mapStops f).inUse = p.inUse := rfl
@[simp] theorem Play.mapStops_matcher (p : Play) (f : Nat → Nat → StopRecord → StopRecord) : (p.mapStops f).matcher = p.matcher := rfl
@[simp] theorem Play.mapStops_tracker (p : Play) (f : Nat → Nat → StopRecord → StopRecord) : (p.mapStops f).tracker = p.tracker := rfl
@[simp] theorem Play.mapStops_reader (p : Play) (f : Nat → Nat → StopRecord → StopRecord) : (p.mapStops f).reader = p.reader := rfl
@[simp] theorem Play.mapStops_slots (p : Play) (f : Nat → Nat → StopRecord → StopRecord) : (p.mapStops f).slots = p.slots := rfl
@[simp] theorem Play.mapStops_stops (p : Play) (f : Nat → Nat → StopRecord → StopRecord) : (p.mapStops f).stops = mapFrom (fun d l => mapFrom (f d) 0 l) 0 p.stops := rfl
@[simp] theorem Play.mapStops_apply (p : Play) (f : Nat → Nat → StopRecord → StopRecord) : (p.mapStops f).apply = p.apply := rfl
@[simp] theorem Play.mapStops_atOnce (p : Play) (f : Nat → Nat → StopRecord → StopRecord) : (p.mapStops f).atOnce = p.atOnce := rfl

/-! ### State.answer -/

@[simp] theorem State.answer_toEnv (s : State) (a : Answer) : (s.answer a).toEnv = s.toEnv := rfl
@[simp] theorem State.answer_inReset (s : State) (a : Answer) : (s.answer a).inReset = s.inReset := rfl
@[simp] theorem State.answer_listening (s : State) (a : Answer) : (s.answer a).listening = s.listening := rfl
@[simp] theorem State.answer_swell (s : State) (a : Answer) : (s.answer a).swell = s.swell := rfl
@[simp] theorem State.answer_link (s : State) (a : Answer) : (s.answer a).link = { s.link with busy := true, answer := some a } := rfl
@[simp] theorem State.answer_play (s : State) (a : Answer) : (s.answer a).play = s.play := rfl
@[simp] theorem State.answer_pending (s : State) (a : Answer) : (s.answer a).pending = s.pending := rfl

/-! ### State.reply -/

@[simp] theorem State.reply_toEnv (s : State) (code : Nat) (body : List Byte) : (s.reply code body).toEnv = s.toEnv := rfl
@[simp] theorem State.reply_inReset (s : State) (code : Nat) (body : List Byte) : (s.reply code body).inReset = s.inReset := rfl
@[simp] theorem State.reply_listening (s : State) (code : Nat) (body : List Byte) : (s.reply code body).listening = s.listening := rfl
@[simp] theorem State.reply_swell (s : State) (code : Nat) (body : List Byte) : (s.reply code body).swell = s.swell := rfl
@[simp] theorem State.reply_link (s : State) (code : Nat) (body : List Byte) : (s.reply code body).link = { s.link with busy := true, answer := some (replyAnswer code body) } := rfl
@[simp] theorem State.reply_play (s : State) (code : Nat) (body : List Byte) : (s.reply code body).play = s.play := rfl
@[simp] theorem State.reply_pending (s : State) (code : Nat) (body : List Byte) : (s.reply code body).pending = s.pending := rfl

/-! ### State.reject -/

@[simp] theorem State.reject_toEnv (s : State) (code : Nat) (r : Reason) (d : Nat) : (s.reject code r d).toEnv = s.toEnv := rfl
@[simp] theorem State.reject_inReset (s : State) (code : Nat) (r : Reason) (d : Nat) : (s.reject code r d).inReset = s.inReset := rfl
@[simp] theorem State.reject_listening (s : State) (code : Nat) (r : Reason) (d : Nat) : (s.reject code r d).listening = s.listening := rfl
@[simp] theorem State.reject_swell (s : State) (code : Nat) (r : Reason) (d : Nat) : (s.reject code r d).swell = s.swell := rfl
@[simp] theorem State.reject_link (s : State) (code : Nat) (r : Reason) (d : Nat) : (s.reject code r d).link = { s.link with busy := true, answer := some (rejectAnswer code r d) } := rfl
@[simp] theorem State.reject_play (s : State) (code : Nat) (r : Reason) (d : Nat) : (s.reject code r d).play = s.play := rfl
@[simp] theorem State.reject_pending (s : State) (code : Nat) (r : Reason) (d : Nat) : (s.reject code r d).pending = s.pending := rfl

/-! ### State.hunt -/

@[simp] theorem State.hunt_toEnv (s : State) : (s.hunt).toEnv = s.toEnv := rfl
@[simp] theorem State.hunt_inReset (s : State) : (s.hunt).inReset = s.inReset := rfl
@[simp] theorem State.hunt_listening (s : State) : (s.hunt).listening = s.listening := rfl
@[simp] theorem State.hunt_swell (s : State) : (s.hunt).swell = s.swell := rfl
@[simp] theorem State.hunt_link (s : State) : (s.hunt).link = { s.link with receiver := .hunting } := rfl
@[simp] theorem State.hunt_play (s : State) : (s.hunt).play = s.play := rfl
@[simp] theorem State.hunt_pending (s : State) : (s.hunt).pending = s.pending := rfl

/-! ### State.act -/

@[simp] theorem State.act_toEnv (s : State) (f : Env → Play → Play) : (s.act f).toEnv = s.toEnv := rfl
@[simp] theorem State.act_inReset (s : State) (f : Env → Play → Play) : (s.act f).inReset = s.inReset := rfl
@[simp] theorem State.act_listening (s : State) (f : Env → Play → Play) : (s.act f).listening = s.listening := rfl
@[simp] theorem State.act_swell (s : State) (f : Env → Play → Play) : (s.act f).swell = s.swell := rfl
@[simp] theorem State.act_link (s : State) (f : Env → Play → Play) : (s.act f).link = s.link := rfl
@[simp] theorem State.act_play (s : State) (f : Env → Play → Play) : (s.act f).play = settle s.toEnv settleFuel (f s.toEnv s.play) := rfl
@[simp] theorem State.act_pending (s : State) (f : Env → Play → Play) : (s.act f).pending = s.pending := rfl

/-! ### State.setTracker -/

@[simp] theorem State.setTracker_toEnv (s : State) (tr : Tracker) : (s.setTracker tr).toEnv = s.toEnv := rfl
@[simp] theorem State.setTracker_inReset (s : State) (tr : Tracker) : (s.setTracker tr).inReset = s.inReset := rfl
@[simp] theorem State.setTracker_listening (s : State) (tr : Tracker) : (s.setTracker tr).listening = s.listening := rfl
@[simp] theorem State.setTracker_swell (s : State) (tr : Tracker) : (s.setTracker tr).swell = s.swell := rfl
@[simp] theorem State.setTracker_link (s : State) (tr : Tracker) : (s.setTracker tr).link = s.link := rfl
@[simp] theorem State.setTracker_play (s : State) (tr : Tracker) : (s.setTracker tr).play = { s.play with tracker := tr } := rfl
@[simp] theorem State.setTracker_pending (s : State) (tr : Tracker) : (s.setTracker tr).pending = s.pending := rfl

/-! ### State.countBadFrame -/

@[simp] theorem State.countBadFrame_toEnv (s : State) : (s.countBadFrame).toEnv = s.toEnv := rfl
@[simp] theorem State.countBadFrame_inReset (s : State) : (s.countBadFrame).inReset = s.inReset := rfl
@[simp] theorem State.countBadFrame_listening (s : State) : (s.countBadFrame).listening = s.listening := rfl
@[simp] theorem State.countBadFrame_swell (s : State) : (s.countBadFrame).swell = s.swell := rfl
@[simp] theorem State.countBadFrame_link (s : State) : (s.countBadFrame).link = s.link := rfl
@[simp] theorem State.countBadFrame_play (s : State) : (s.countBadFrame).play = s.play.count .badFrame := rfl
@[simp] theorem State.countBadFrame_pending (s : State) : (s.countBadFrame).pending = s.pending := rfl

/-! ### State.setChannel -/

@[simp] theorem State.setChannel_toEnv (s : State) (c : Nat) (f : Channel → Channel) : (s.setChannel c f).toEnv = s.toEnv := rfl
@[simp] theorem State.setChannel_inReset (s : State) (c : Nat) (f : Channel → Channel) : (s.setChannel c f).inReset = s.inReset := rfl
@[simp] theorem State.setChannel_listening (s : State) (c : Nat) (f : Channel → Channel) : (s.setChannel c f).listening = { s.listening with channels := s.listening.channels.modify c f } := rfl
@[simp] theorem State.setChannel_swell (s : State) (c : Nat) (f : Channel → Channel) : (s.setChannel c f).swell = s.swell := rfl
@[simp] theorem State.setChannel_link (s : State) (c : Nat) (f : Channel → Channel) : (s.setChannel c f).link = s.link := rfl
@[simp] theorem State.setChannel_play (s : State) (c : Nat) (f : Channel → Channel) : (s.setChannel c f).play = s.play := rfl
@[simp] theorem State.setChannel_pending (s : State) (c : Nat) (f : Channel → Channel) : (s.setChannel c f).pending = s.pending := rfl

end Sys2Proof.Machine
end

