-- ==== Sys2Proof/Laws/Ops.lean ====
section
/-! SUPPORT. What the shared operations over lists, slots, stops and bytes can do: one lemma each, which a
later proof cites instead of unfolding the operation. -/

namespace Sys2Proof.Machine

/-! ### Times -/

@[simp] theorem dueAt_none (now : Tick) : dueAt now none = false := rfl
@[simp] theorem dueAt_some (now t : Tick) : dueAt now (some t) = hasCome now t := rfl
@[simp] theorem dueAfter_none (now : Tick) (span : Nat) : dueAfter now span none = false := rfl
@[simp] theorem dueAfter_some (now t : Tick) (span : Nat) :
    dueAfter now span (some t) = hasCome now (t + ticks span) := rfl
@[simp] theorem agesOut_none (now : Tick) : agesOut now none = false := rfl

/-- An expiry has come exactly when its time is not after the clock (R1). -/
theorem hasCome_iff {now t : Tick} : hasCome now t = true ↔ timeDiff t now ≤ 0 := by
  simp only [hasCome, isAfter, Bool.not_eq_true', decide_eq_false_iff_not, not_lt]

/-! ### Numbered lists -/

@[simp] theorem mapFrom_length {α β : Type} (f : Nat → α → β) (k : Nat) (l : List α) :
    (mapFrom f k l).length = l.length := by
  induction l generalizing k with
  | nil => rfl
  | cons a as ih => simp [mapFrom, ih]

/-- Each element of a numbered map. -/
theorem mapFrom_getElem? {α β : Type} (f : Nat → α → β) (k i : Nat) (l : List α) :
    (mapFrom f k l)[i]? = (l[i]?).map (f (k + i)) := by
  induction l generalizing k i with
  | nil => simp [mapFrom]
  | cons a as ih =>
    cases i with
    | zero => simp [mapFrom]
    | succ i => simp [mapFrom, ih, Nat.add_assoc, Nat.add_comm 1]

/-- A numbered map that changes no element changes nothing. -/
theorem mapFrom_id {α : Type} (f : Nat → α → α) (k : Nat) (l : List α)
    (h : ∀ i a, l[i]? = some a → f (k + i) a = a) : mapFrom f k l = l := by
  apply List.ext_getElem?
  intro i
  rw [mapFrom_getElem?]
  cases hi : l[i]? with
  | none => rfl
  | some a => simp [h i a hi]

/-! ### Records of the Keying Table -/

/-- The record of a slot, as the slots hold it. -/
theorem Play.record_eq_some {p : Play} {i : Nat} {r : KeyRecord} :
    p.record i = some r ↔ p.slots[i]? = some (some r) := by
  simp only [Play.record]
  cases h : p.slots[i]? with
  | none => simp
  | some o => cases o <;> simp

theorem recordsFrom_mem {k i : Nat} {r : KeyRecord} {l : List (Option KeyRecord)} :
    (i, r) ∈ recordsFrom k l ↔ k ≤ i ∧ l[i - k]? = some (some r) := by
  induction l generalizing k with
  | nil => simp [recordsFrom]
  | cons o rest ih =>
    have step : ∀ j, k ≤ j → j ≠ k → (o :: rest)[j - k]? = rest[j - (k + 1)]? := by
      intro j h1 h2
      rw [show j - k = (j - (k + 1)) + 1 by omega]; rfl
    cases o with
    | none =>
      simp only [recordsFrom, ih]
      constructor
      · rintro ⟨h1, h2⟩; exact ⟨by omega, by rw [step i (by omega) (by omega)]; exact h2⟩
      · rintro ⟨h1, h2⟩
        by_cases hk : i = k
        · subst hk; simp at h2
        · exact ⟨by omega, by rw [step i h1 hk] at h2; exact h2⟩
    | some a =>
      simp only [recordsFrom, List.mem_cons, ih, Prod.mk.injEq]
      constructor
      · rintro (⟨rfl, rfl⟩ | ⟨h1, h2⟩)
        · simp
        · exact ⟨by omega, by rw [step i (by omega) (by omega)]; exact h2⟩
      · rintro ⟨h1, h2⟩
        by_cases hk : i = k
        · subst hk; simp at h2; exact Or.inl ⟨rfl, h2.symm⟩
        · exact Or.inr ⟨by omega, by rw [step i h1 hk] at h2; exact h2⟩

/-- The list of records holds exactly the records of the slots. -/
theorem Play.mem_records {p : Play} {i : Nat} {r : KeyRecord} : (i, r) ∈ p.records ↔ p.record i = some r := by
  rw [Play.records, recordsFrom_mem, Play.record_eq_some]; simp

/-- The record of a slot that is written, and of another. -/
theorem Play.record_setRec {p : Play} {i j : Nat} {o : Option KeyRecord} :
    (p.setRec i o).record j = if i = j ∧ i < p.slots.length then o else p.record j := by
  simp only [Play.record, Play.setRec, List.getElem?_set]
  by_cases h : i = j
  · subst h
    by_cases hl : i < p.slots.length <;> simp [hl]
  · simp [h]

/-- A slot with a record exists. -/
theorem Play.lt_of_record {p : Play} {i : Nat} {r : KeyRecord} (h : p.record i = some r) : i < p.slots.length := by
  rw [Play.record_eq_some] at h
  exact (List.getElem?_eq_some_iff.mp h).1

/-- The slot that a search finds holds a record that passes the test. -/
theorem Play.findSlot_some {p : Play} {f : KeyRecord → Bool} {i : Nat} (h : p.findSlot f = some i) :
    ∃ r, p.record i = some r ∧ f r = true := by
  rw [Play.findSlot, List.findIdx?_eq_some_iff_getElem] at h
  obtain ⟨hi, hf, -⟩ := h
  cases ho : p.slots[i] with
  | none => simp [ho] at hf
  | some r => exact ⟨r, Play.record_eq_some.mpr (by rw [List.getElem?_eq_getElem hi, ho]), by simpa [ho] using hf⟩

/-- A search that finds no slot: no record passes the test. -/
theorem Play.findSlot_none {p : Play} {f : KeyRecord → Bool} :
    p.findSlot f = none ↔ ∀ i r, p.record i = some r → f r = false := by
  rw [Play.findSlot, List.findIdx?_eq_none_iff]
  constructor
  · intro h i r hr
    have := h (some r) (List.mem_of_getElem? (Play.record_eq_some.mp hr))
    simpa using this
  · intro h o ho
    obtain ⟨i, hi⟩ := List.getElem?_of_mem ho
    cases o with
    | none => rfl
    | some r => simpa using h i r (Play.record_eq_some.mpr hi)

/-! ### Stop records -/

/-- A stop's record after a change of every record. -/
theorem Play.stop_mapStops {p : Play} (f : Nat → Nat → StopRecord → StopRecord) (d i : Nat) :
    (p.mapStops f).stop d i = (p.stop d i).map (f d i) := by
  simp only [Play.stop, Play.mapStops_stops, mapFrom_getElem?, Nat.zero_add]
  cases p.stops[d]? with
  | none => rfl
  | some l => simp [mapFrom_getElem?]

/-! ### Numbers in bytes -/

@[simp] theorem putNum_length (k n : Nat) : (putNum k n).length = k := by
  induction k generalizing n with
  | zero => rfl
  | succ k ih => simp [putNum, ih]

end Sys2Proof.Machine
end

