-- ==== Sys2Proof/Laws/Step.lean ====
section
/-! SUPPORT. What taking a request or an event, and settling the expiries due at once, can do. -/

namespace Sys2Proof.Machine

/-! ### Requests and events -/

/-- The receiver in HUNT keeps no part of another frame. -/
theorem Receiver.begins_hunt {r : Receiver} (h : r.state = .hunt) (f : RawFrame) : r.begins f = true := by
  simp [Receiver.begins, h]

/-- A frame that the receiver's bytes begin completes. -/
theorem State.arrive_begins {s : State} {f : RawFrame} (h : s.link.receiver.begins f = true)
    (complete : State → State) : s.arrive f complete = complete s := by
  simp [State.arrive, h]

/-- A request whose frame completes is accepted. -/
theorem State.request_begins {s : State} {c : Instr} {code : Nat} {body : List Byte} (hr : s.inReset = false)
    (hw : writeRequest c = some (code, body)) (h : s.link.receiver.begins (frameOf code body) = true)
    (f : State → State) : s.request c f = s.acceptFrame code f := by
  simp only [State.request, hr, hw, State.arrive_begins h]; rfl

/-- A request that is taken is carried out by its block. -/
theorem State.request_ready {s : State} (h : Ready s) {c : Instr} {code : Nat} {body : List Byte}
    (hw : writeRequest c = some (code, body)) (f : State → State) : s.request c f = f s.hunt := by
  rw [State.request_begins h.1 hw (Receiver.begins_hunt h.2.2 _)]
  simp [State.acceptFrame, h.2.1]

/-- No request is received while RESETn is low (R194). -/
theorem State.request_inReset {s : State} (h : s.inReset = true) (c : Instr) (f : State → State) :
    s.request c f = s := by
  simp [State.request, h]

/-- A request on a busy link is not carried out (R198). -/
theorem State.request_busy {s : State} {c : Instr} {code : Nat} {body : List Byte} (hr : s.inReset = false)
    (hw : writeRequest c = some (code, body)) (h : s.link.receiver.begins (frameOf code body) = true)
    (hb : s.link.busy = true) (f : State → State) :
    s.request c f = s.hunt.whileBusy (rejectAnswer code .busy 0) false := by
  rw [State.request_begins hr hw h]
  simp [State.acceptFrame, hb]

/-- What holds of a state, and is kept by each byte, holds after any bytes. -/
theorem State.receiveAll_induct {P : State → Prop} (hb : ∀ (b : Byte) (s : State), P s → P (s.receive b))
    (bs : List Byte) {s : State} (h : P s) : P (State.receiveAll bs s) := by
  induction bs generalizing s with
  | nil => exact h
  | cons b bs ih => exact ih (hb b s h)

/-- An event is taken while RESETn is high. -/
theorem State.event_awake {s : State} (h : Awake s) (f : State → State) : s.event f = f s := by
  simp only [State.event, show s.inReset = false from h]; rfl

theorem State.event_inReset {s : State} (h : s.inReset = true) (f : State → State) : s.event f = s := by
  simp [State.event, h]

/-- A request whose test fails is rejected; one whose tests pass is carried out. -/
@[simp] theorem State.tested_none (s : State) (code : Nat) (f : State → State) :
    s.tested code none f = f s := rfl
@[simp] theorem State.tested_some (s : State) (code : Nat) (r : Reason) (d : Nat) (f : State → State) :
    s.tested code (some (r, d)) f = s.reject code r d := rfl

/-- The reply of a request that is taken. -/
theorem State.hunt_reply (s : State) (code : Nat) (body : List Byte) :
    s.hunt.reply code body = { s with link := replyLink s code body } := rfl

/-- The reject of a request that is taken. -/
theorem State.hunt_reject (s : State) (code : Nat) (r : Reason) (d : Nat) :
    s.hunt.reject code r d = { s with link := rejectLink s code r d } := rfl

/-! ### The queue -/

/-- The step takes the command at the front of the queue. -/
theorem step_cons (c : Instr) (rest : List Instr) (s : State) (h : s.pending = c :: rest) :
    step s = exec c { s with pending := rest } := by
  simp only [step, h]

/-! ### Expiries taken at once -/

/-- With nothing to take, settling changes nothing. -/
theorem settle_nil {e : Env} {p : Play} (n : Nat) (h : p.atOnce = []) : settle e n p = p := by
  cases n with
  | zero => rfl
  | succ n => simp [settle, h]

/-- Settling takes the first expiry of the list. -/
theorem settle_cons {e : Env} {p : Play} {d : Due} {rest : List Due} (n : Nat) (h : p.atOnce = d :: rest) :
    settle e (n + 1) p = settle e n (takeDue e d { p with atOnce := rest }) := by
  simp [settle, h]

/-- What holds of a play and is kept by taking any expiry holds once the play has settled. -/
theorem settle_induct {P : Play → Prop} {e : Env}
    (hrest : ∀ (p : Play) (l : List Due), P p → P { p with atOnce := l })
    (hdue : ∀ (d : Due) (p : Play), P p → P (takeDue e d p)) (n : Nat) {p : Play} (h : P p) :
    P (settle e n p) := by
  induction n generalizing p with
  | zero => exact h
  | succ n ih =>
    cases hp : p.atOnce with
    | nil => rw [settle_nil _ hp]; exact h
    | cons d rest => rw [settle_cons n hp]; exact ih (hdue d _ (hrest p rest h))

/-- An effect that makes nothing due at once. -/
theorem State.act_settled {s : State} {f : Env → Play → Play} (h : (f s.toEnv s.play).atOnce = []) :
    s.act f = { s with play := f s.toEnv s.play } := by
  simp only [State.act]
  rw [settle_nil _ h]

/-- The state once nothing is due. -/
theorem afterwards_settled {s : State} {q : Play} (h : q.atOnce = []) : afterwards s q = { s with play := q } := by
  simp only [afterwards]
  rw [settle_nil _ h]

/-- An expiry that has not come does nothing. -/
theorem takeOnTime_not_due {e : Env} {i : Nat} {p : Play} (h : onTimeDue e p i = false) : takeOnTime e i p = p := by
  simp [takeOnTime, h]
theorem takeOffTime_not_due {e : Env} {i : Nat} {p : Play} (h : offTimeDue e p i = false) :
    takeOffTime e i p = p := by
  simp [takeOffTime, h]
theorem takeDeadline_not_due {e : Env} {i : Nat} {p : Play} (h : deadlineDue e p i = false) :
    takeDeadline e i p = p := by
  simp [takeDeadline, h]
theorem takeWindowClose_not_due {e : Env} {p : Play} (h : windowDue e p = false) : takeWindowClose e p = p := by
  simp [takeWindowClose, h]
theorem takeFermata_not_due {e : Env} {p : Play} (h : fermataDue e p = false) : takeFermata e p = p := by
  simp [takeFermata, h]
theorem schedule_not_due {e : Env} {p : Play} (h : schedulingDue e p = false) : schedule e p = p := by
  have : dueAt e.clock p.reader.schedAt = false := h
  simp [schedule, this]

end Sys2Proof.Machine
end

