-- ==== Sys2Proof/Laws/Following.lean ====
section
/-! SUPPORT. What handing a beat reference on, a miss and an item end leave: one equation each, which later
proofs rewrite with instead of unfolding the operation. -/

namespace Sys2Proof.Machine

/-- The window-close expiry derived, and taken at once when it has come. -/
theorem deriveWindow_eq (e : Env) (p : Play) : deriveWindow e p = { p with
    matcher := { p.matcher with windowClose := windowCloseFor p.matcher p.tracker }
    atOnce := p.atOnce ++ (if dueAt e.clock (windowCloseFor p.matcher p.tracker) then [.windowClose] else []) } := by
  simp only [deriveWindow, Play.push]
  cases dueAt e.clock (windowCloseFor p.matcher p.tracker) <;> simp

/-- The scheduling expiry derived, and taken at once when it has come. -/
theorem deriveScheduling_eq (e : Env) (p : Play) : deriveScheduling e p = { p with
    reader := { p.reader with schedAt := schedulingFor e p }
    atOnce := p.atOnce ++ (if dueAt e.clock (schedulingFor e p) then [.scheduling] else []) } := by
  simp only [deriveScheduling, Play.push]
  cases dueAt e.clock (schedulingFor e p) <;> simp

/-- The fermata expiry derived, and taken at once when it has come. -/
theorem deriveFermata_eq (e : Env) (p : Play) : deriveFermata e p = { p with
    tracker := { p.tracker with fermataAt := p.tracker.fermata.map (fun (f : Fermata) => p.tracker.timeOf f.position) }
    atOnce := p.atOnce ++ (if p.tracker.tracking &&
      dueAt e.clock (p.tracker.fermata.map (fun (f : Fermata) => p.tracker.timeOf f.position)) then [.fermata] else []) } := by
  have h : ∀ b, (if (b && dueAt e.clock (p.tracker.fermata.map (fun (f : Fermata) => p.tracker.timeOf f.position))) = true
      then ({ p with tracker := { p.tracker with
        fermataAt := p.tracker.fermata.map (fun (f : Fermata) => p.tracker.timeOf f.position) } }.push .fermata)
      else { p with tracker := { p.tracker with
        fermataAt := p.tracker.fermata.map (fun (f : Fermata) => p.tracker.timeOf f.position) } }) =
      { p with
        tracker := { p.tracker with
          fermataAt := p.tracker.fermata.map (fun (f : Fermata) => p.tracker.timeOf f.position) }
        atOnce := p.atOnce ++ (if b &&
          dueAt e.clock (p.tracker.fermata.map (fun (f : Fermata) => p.tracker.timeOf f.position)) then [.fermata]
          else []) } := by
    intro b
    simp only [Play.push]
    split <;> simp
  exact h _

/-- The three expiries derived again. -/
theorem deriveExpiries_eq (e : Env) (p : Play) : deriveExpiries e p = { p with
    matcher := { p.matcher with windowClose := windowCloseFor p.matcher p.tracker }
    reader := { p.reader with schedAt := schedulingFor e p }
    tracker := { p.tracker with fermataAt := p.tracker.fermata.map (fun (f : Fermata) => p.tracker.timeOf f.position) }
    atOnce := p.atOnce ++ (if dueAt e.clock (windowCloseFor p.matcher p.tracker) then [.windowClose] else []) ++
      (if dueAt e.clock (schedulingFor e p) then [.scheduling] else []) ++
      (if p.tracker.tracking &&
        dueAt e.clock (p.tracker.fermata.map (fun (f : Fermata) => p.tracker.timeOf f.position)) then [.fermata] else []) } := by
  simp only [deriveExpiries, deriveWindow_eq, deriveScheduling_eq, deriveFermata_eq]
  rfl

/-- A fermata expiry has come only when one is kept. -/
theorem fermataDue_followed (e : Env) (tr : Tracker) (p : Play) : fermataDue e (followed e tr p) =
    (tr.tracking && dueAt e.clock (tr.fermata.map (fun (f : Fermata) => tr.timeOf f.position))) := by
  simp only [fermataDue, followed, Tracker.tracking]
  cases tr.fermata with
  | none => simp [dueAt]
  | some f => simp [dueAt]; rfl

/-- A tracker update: everything follows the tracker's new reference (R118). -/
theorem trackerUpdate_eq (e : Env) (tr : Tracker) (p : Play) : trackerUpdate e { p with tracker := tr } =
    { followed e tr p with
      atOnce := p.atOnce ++ dueOfRetiming e (followed e tr p) ++ comeDue e (followed e tr p) } := by
  simp only [comeDue, fermataDue_followed, trackerUpdate, deriveExpiries_eq, retime, ← List.append_assoc]
  rfl

/-- A miss told to the tracker (R120). -/
theorem takeMiss_eq (p : Play) : takeMiss p = { p with
    tracker := { p.tracker with
      misses := if p.tracker.tracking then min (p.tracker.misses + 1) 255 else p.tracker.misses
      state := if p.tracker.state = .following ∧
        p.tracker.params.missLimit ≤ min (p.tracker.misses + 1) 255 then .coasting else p.tracker.state }
    latches := if p.tracker.state = .following ∧
      p.tracker.params.missLimit ≤ min (p.tracker.misses + 1) 255 then p.latches ||| 512#19 else p.latches } := by
  rcases p with ⟨la, co, cu, iu, ma, ⟨st, _⟩, rd, sl, so, ap, ao⟩
  cases st <;> simp [takeMiss, Tracker.tracking, Play.latch, Latch.bit]
  split <;> rfl

/-- An item end, by its cause (R146). -/
theorem itemEnd_eq (cause : EndCause) (p : Play) :
    itemEnd cause p = playEnded cause (retireForEnd cause p).slots p := by
  have h : ∀ q : Play, q = matcherItemEnd (trackerItemEnd p) → (retireForEnd cause q) =
      { q with slots := (retireForEnd cause p).slots } := by
    rintro q rfl
    have hs : (matcherItemEnd (trackerItemEnd p)).slots = p.slots := by
      simp only [matcherItemEnd, trackerItemEnd, Play.setMatcher]; split <;> rfl
    cases cause <;> simp [retireForEnd, retireScore, retireAll, hs] <;> rw [← hs]
  simp only [itemEnd]
  rw [h _ rfl]
  simp only [matcherItemEnd, trackerItemEnd, Play.setMatcher, playEnded, trackerIdle, Reader.atItemEnd, Play.latch]
  by_cases hh : p.tracker.state = .holding
  · simp [hh, Latch.bit]; rfl
  · simp [hh, Latch.bit]; rfl

/-- The earliest PENDING anchor is the first of a rising list. -/
theorem firstPending_iff {m : Matcher} (hr : Rising m) {a : Anchor} :
    m.firstPending = some a ↔ EarliestPending m a := by
  unfold Rising at hr
  simp only [Matcher.firstPending, EarliestPending]
  generalize m.anchors = l at hr
  induction l with
  | nil => simp
  | cons b l ih =>
    rw [List.pairwise_cons] at hr
    rw [List.find?_cons]
    by_cases hb : b.status = .pending
    · simp only [hb, decide_true]
      constructor
      · intro h; cases h
        exact ⟨by simp, hb, fun c hc _ => (List.mem_cons.mp hc).elim (by rintro rfl; exact le_refl _)
          (fun hc => (hr.1 c hc).le)⟩
      · rintro ⟨h1, -, h3⟩
        rcases List.mem_cons.mp h1 with rfl | hc
        · rfl
        · have := h3 b (by simp) hb
          have := hr.1 a hc
          omega
    · simp only [hb, decide_false, ih hr.2]
      constructor
      · rintro ⟨h1, h2, h3⟩
        exact ⟨List.mem_cons_of_mem _ h1, h2, fun c hc hp =>
          (List.mem_cons.mp hc).elim (by rintro rfl; exact absurd hp hb) (fun hc => h3 c hc hp)⟩
      · rintro ⟨h1, h2, h3⟩
        rcases List.mem_cons.mp h1 with rfl | hc
        · exact absurd h2 hb
        · exact ⟨hc, h2, fun c hc hp => h3 c (List.mem_cons_of_mem _ hc) hp⟩

end Sys2Proof.Machine
end

