-- ==== Sys2Proof/Laws/Keying.lean ====
section
/-! SUPPORT. What each operation on a keying record can do: one lemma per operation, which later proofs cite
instead of unfolding it. -/

namespace Sys2Proof.Machine

/-- Noting an off time that has come leaves every record and counter. -/
theorem pushIfDue_frame (e : Env) (i : Nat) (q : Play) : (∀ j, (pushIfDue e i q).record j = q.record j) ∧
    (pushIfDue e i q).counters = q.counters ∧ (pushIfDue e i q).slots = q.slots := by
  simp only [pushIfDue]
  split
  · exact ⟨fun _ => rfl, rfl, rfl⟩
  · split <;> (try split) <;> exact ⟨fun _ => rfl, rfl, rfl⟩

/-- The times of one record derived again (R155): only its on time and off time change, and a keyed record
keeps its on time. -/
theorem rederive_facts (e : Env) (i : Nat) (p : Play) :
    (∀ j, j ≠ i → (rederive e i p).record j = p.record j) ∧ (rederive e i p).counters = p.counters ∧
    (p.record i = none → (rederive e i p).record i = none) ∧
    (∀ r, p.record i = some r → ∃ r', (rederive e i p).record i = some r' ∧ r'.state = r.state ∧
      r'.span = r.span ∧ r'.deadline = r.deadline ∧ r'.successor = r.successor ∧ r'.voices = r.voices ∧
      (r.state ≠ .scheduled → r'.onTime = r.onTime)) := by
  simp only [rederive]
  cases h1 : p.record i with
  | none => simp [h1]
  | some r =>
    have hl := Play.lt_of_record h1
    refine ⟨?_, ?_, by simp, ?_⟩
    · intro j hj
      simp only
      rw [(pushIfDue_frame _ _ _).1, Play.record_setRec, if_neg (by tauto)]
    · simp only
      rw [(pushIfDue_frame _ _ _).2.1]; rfl
    · rintro _ ⟨⟩
      refine ⟨_, by simp only; rw [(pushIfDue_frame _ _ _).1, Play.record_setRec, if_pos ⟨rfl, hl⟩], ?_⟩
      cases hs : r.state <;> cases hsp : r.span <;> simp [deriveOn, deriveOff, hs, hsp]

/-- With no predecessor there is nothing to unlink. -/
theorem unlink_none (e : Env) (i : Nat) (p : Play) (h : ∀ j x, p.record j = some x → x.successor ≠ some i) :
    unlink e i p = p := by
  have : p.findSlot (fun r => decide (r.successor = some i)) = none := by
    rw [Play.findSlot_none]; intro j x hx; simpa using h j x hx
  simp [unlink, this]

/-- Unlinking a record from its predecessor (R157, R158) keeps every record, with all but its times and its
successor. -/
theorem unlink_facts (e : Env) (i : Nat) (p : Play) : (unlink e i p).counters = p.counters ∧
    (∀ j, p.record j = none → (unlink e i p).record j = none) ∧
    (∀ j r, p.record j = some r → ∃ r', (unlink e i p).record j = some r' ∧ r'.state = r.state ∧
      r'.span = r.span ∧ r'.deadline = r.deadline ∧ r'.voices = r.voices ∧
      (r.state ≠ .scheduled → r'.onTime = r.onTime)) := by
  simp only [unlink]
  cases h1 : p.findSlot (fun r => decide (r.successor = some i)) with
  | none => exact ⟨rfl, fun _ h => h, fun j r h => ⟨r, h, rfl, rfl, rfl, rfl, fun _ => rfl⟩⟩
  | some k =>
    simp only
    obtain ⟨x, hx, -⟩ := Play.findSlot_some h1
    have hl := Play.lt_of_record hx
    rw [hx]; simp only
    have hr := rederive_facts e k (p.setRec k (some { x with successor := none }))
    refine ⟨by rw [hr.2.1]; rfl, ?_, ?_⟩
    · intro j hj
      have : j ≠ k := by rintro rfl; simp [hx] at hj
      rw [hr.1 j this, Play.record_setRec, if_neg (by tauto)]; exact hj
    · intro j r hj
      by_cases hjk : j = k
      · subst hjk
        rw [hx] at hj; cases hj
        obtain ⟨r', a, b, c, d, _, f, g⟩ := hr.2.2.2 _ (by rw [Play.record_setRec, if_pos ⟨rfl, hl⟩])
        exact ⟨r', a, b, c, d, f, g⟩
      · exact ⟨r, by rw [hr.1 j hjk, Play.record_setRec, if_neg (by tauto)]; exact hj, rfl, rfl, rfl, rfl,
          fun _ => rfl⟩

/-- Retiring a record (R158) frees its slot and keeps every other record, with all but its times and its
successor; it moves no counter. -/
theorem retire_facts (e : Env) (i : Nat) (p : Play) : (retire e i p).counters = p.counters ∧
    (p.record i = none → retire e i p = p) ∧ (retire e i p).record i = none ∧
    (∀ j, p.record j = none → (retire e i p).record j = none) ∧
    (∀ j r, j ≠ i → p.record j = some r → ∃ r', (retire e i p).record j = some r' ∧ r'.state = r.state ∧
      r'.span = r.span ∧ r'.deadline = r.deadline ∧ r'.voices = r.voices ∧
      (r.state ≠ .scheduled → r'.onTime = r.onTime)) := by
  cases h1 : p.record i with
  | none => simp [retire, h1]; intro j r _ h; exact ⟨r, h, rfl, rfl, rfl, rfl, fun _ => rfl⟩
  | some x =>
    have hl := Play.lt_of_record h1
    have h2 : ∃ q : Play, retire e i p = q ∧ q.counters = (unlink e i (p.setRec i none)).counters ∧
        ∀ j, q.record j = (unlink e i (p.setRec i none)).record j := by
      simp only [retire, h1]; cases x.span with
      | none => exact ⟨_, rfl, rfl, fun _ => rfl⟩
      | some sp => simp only; split <;> exact ⟨_, rfl, rfl, fun _ => rfl⟩
    obtain ⟨q, h3, h4, h5⟩ := h2
    have hu := unlink_facts e i (p.setRec i none)
    rw [h3]
    refine ⟨by rw [h4, hu.1]; rfl, by simp, ?_, ?_, ?_⟩
    · rw [h5]; apply hu.2.1; rw [Play.record_setRec, if_pos ⟨rfl, hl⟩]
    · intro j hj; rw [h5]; apply hu.2.1; rw [Play.record_setRec]; split <;> [rfl; exact hj]
    · intro j r hj hr; rw [h5]; apply hu.2.2; rw [Play.record_setRec, if_neg (by tauto)]; exact hr

/-- A note with no record of its key and tag has no latest record. -/
theorem Play.latest_none (p : Play) (n : NoteIn)
    (h : ∀ j x sx, p.record j = some x → x.span = some sx → x.division = n.division → x.key = n.key →
      sx.tag ≠ n.tag) : p.latest n = none := by
  simp only [Play.latest]
  rw [List.filterMap_eq_nil_iff.mpr]
  · rfl
  · rintro ⟨j, x⟩ hm
    rw [Play.mem_records] at hm
    cases hs : x.span with
    | none => simp
    | some sx => simp [KeyRecord.onKey]; intro a b; exact h j x sx hm hs a b

/-- A note that joins a record (R160 to R163) changes its voices, priority, end and times alone. -/
theorem joinRecord_facts (e : Env) (i : Nat) (r : KeyRecord) (sp : Span) (n : NoteIn) (stop : Nat) (p : Play)
    (h1 : p.record i = some r) :
    (∀ j, j ≠ i → (joinRecord e i r sp n stop p).record j = p.record j) ∧
    (joinRecord e i r sp n stop p).counters = p.counters ∧
    ∃ r', (joinRecord e i r sp n stop p).record i = some r' ∧ r'.voices = r.voices ||| BitVec.twoPow 6 n.voice ∧
      r'.priority = max r.priority n.priority ∧ r'.span = some { sp with stop := stop } ∧
      r'.state = r.state ∧ r'.deadline = r.deadline ∧ r'.successor = r.successor ∧
      r'.holdKind = r.holdKind ∧ (r.state = .held → r'.offTime = r.offTime) := by
  have hl := Play.lt_of_record h1
  simp only [joinRecord, rederive]
  rw [Play.record_setRec, if_pos ⟨rfl, hl⟩]
  simp only
  refine ⟨?_, ?_, ?_⟩
  · intro j hj
    rw [(pushIfDue_frame _ _ _).1, Play.record_setRec, if_neg (by tauto), Play.record_setRec, if_neg (by tauto)]
  · rw [(pushIfDue_frame _ _ _).2.1]; rfl
  · refine ⟨_, by rw [(pushIfDue_frame _ _ _).1, Play.record_setRec, if_pos ⟨rfl, by simpa using hl⟩], ?_⟩
    cases r.state <;> simp [deriveOn, deriveOff, voiceBit]

/-- The later of two times is at or after the second. -/
theorem later_ge (a b : Tick) : 0 ≤ timeDiff (later a b) b := by
  simp only [later]; split
  · rename_i h; simp [isAfter] at h; omega
  · simp [timeDiff]

end Sys2Proof.Machine
end

