-- ==== Sys2Proof/Laws/Memory.lean ====
section
/-! SUPPORT. The laws of the library's block storage: a write keeps the canonical form, a read after a
write gives the written byte at its address and the old byte elsewhere, and so for a run of image bytes. -/

namespace Sys2Proof.Machine

/-- A storage that is canonical above a bound is so above a lower one. -/
theorem Memory.wfFrom_mono {m : Memory} {low low' : Nat} (h : low' ≤ low) (hm : Memory.wfFrom low m = true) :
    Memory.wfFrom low' m = true := by
  cases m with
  | nil => rfl
  | cons c rest =>
    obtain ⟨k, b⟩ := c
    simp only [Memory.wfFrom, Bool.and_eq_true, decide_eq_true_eq] at hm ⊢
    exact ⟨⟨by omega, hm.1.2⟩, hm.2⟩

/-- A write keeps the canonical form above a bound that its address meets. -/
theorem Memory.wfFrom_write {m : Memory} {low a : Nat} (b : Byte) (hm : Memory.wfFrom low m = true)
    (ha : low ≤ a) : Memory.wfFrom low (m.write a b) = true := by
  induction m generalizing low with
  | nil =>
    simp only [Memory.write]; split
    · rfl
    · rename_i hb; simp only [Memory.wfFrom, Bool.and_eq_true, decide_eq_true_eq]; exact ⟨⟨ha, hb⟩, trivial⟩
  | cons c rest ih =>
    obtain ⟨k, d⟩ := c
    simp only [Memory.wfFrom, Bool.and_eq_true, decide_eq_true_eq] at hm
    obtain ⟨⟨hk, hd⟩, hr⟩ := hm
    simp only [Memory.write]
    split
    · split
      · simp only [Memory.wfFrom, Bool.and_eq_true, decide_eq_true_eq]; exact ⟨⟨hk, hd⟩, hr⟩
      · rename_i h1 hb
        simp only [Memory.wfFrom, Bool.and_eq_true, decide_eq_true_eq]
        exact ⟨⟨ha, hb⟩, ⟨by omega, hd⟩, hr⟩
    · split
      · rename_i _ h2; subst h2
        split
        · exact Memory.wfFrom_mono (by omega) hr
        · rename_i hb
          simp only [Memory.wfFrom, Bool.and_eq_true, decide_eq_true_eq]; exact ⟨⟨ha, hb⟩, hr⟩
      · simp only [Memory.wfFrom, Bool.and_eq_true, decide_eq_true_eq]
        exact ⟨⟨hk, hd⟩, ih hr (show k + 1 ≤ a by omega)⟩

/-- A write keeps the canonical form. -/
theorem Memory.wf_write {m : Memory} (a : Nat) (b : Byte) (hm : m.wf = true) : (m.write a b).wf = true :=
  Memory.wfFrom_write b hm (Nat.zero_le a)

/-- Below the least listed address every address reads as 0. -/
theorem Memory.read_below {m : Memory} {low a : Nat} (hm : Memory.wfFrom low m = true) (ha : a < low) :
    m.read a = 0 := by
  induction m generalizing low with
  | nil => rfl
  | cons c rest ih =>
    obtain ⟨k, d⟩ := c
    simp only [Memory.wfFrom, Bool.and_eq_true, decide_eq_true_eq] at hm
    simp only [Memory.read]
    rw [if_neg (by omega)]
    exact ih hm.2 (by omega)

/-- A read after a write to the same address. -/
theorem Memory.read_write_same {m : Memory} {low : Nat} (a : Nat) (b : Byte)
    (hm : Memory.wfFrom low m = true) : (m.write a b).read a = b := by
  induction m generalizing low with
  | nil =>
    simp only [Memory.write]; split
    · rename_i hb; exact hb.symm
    · simp [Memory.read]
  | cons c rest ih =>
    obtain ⟨k, d⟩ := c
    simp only [Memory.wfFrom, Bool.and_eq_true, decide_eq_true_eq] at hm
    simp only [Memory.write]
    split
    · rename_i h1
      split
      · rename_i hb; subst hb
        simp only [Memory.read]; rw [if_neg (by omega)]
        exact Memory.read_below hm.2 (by omega)
      · simp [Memory.read]
    · split
      · rename_i h2; subst h2
        split
        · rename_i hb; subst hb; exact Memory.read_below hm.2 (by omega)
        · simp [Memory.read]
      · rename_i h1 h2
        simp only [Memory.read]; rw [if_neg h2]; exact ih hm.2

/-- A write leaves every other address alone. -/
theorem Memory.read_write_other {m : Memory} {low a x : Nat} (b : Byte) (hm : Memory.wfFrom low m = true)
    (hx : x ≠ a) : (m.write a b).read x = m.read x := by
  induction m generalizing low with
  | nil =>
    simp only [Memory.write]; split
    · rfl
    · simp [Memory.read, hx]
  | cons c rest ih =>
    obtain ⟨k, d⟩ := c
    simp only [Memory.wfFrom, Bool.and_eq_true, decide_eq_true_eq] at hm
    simp only [Memory.write]
    split
    · split
      · rfl
      · simp [Memory.read, hx]
    · split
      · rename_i h2; subst h2
        split
        · simp [Memory.read, hx]
        · simp [Memory.read, hx]
      · simp only [Memory.read]; split
        · rfl
        · exact ih hm.2

/-- A run of image bytes keeps the canonical form. -/
theorem writeImage_wf {m : Memory} (en : Entry) (o : Nat) (bs : List Byte) (hm : m.wf = true) :
    (writeImage m en o bs).wf = true := by
  induction bs generalizing m o with
  | nil => exact hm
  | cons b bs ih => exact ih (o + 1) (Memory.wf_write _ b hm)

/-- An address that no byte of the run goes to reads as before. -/
theorem writeImage_read_other {m : Memory} (en : Entry) (o a : Nat) (bs : List Byte) (hm : m.wf = true)
    (h : ∀ i, i < bs.length → a ≠ en.address (o + i)) : (writeImage m en o bs).read a = m.read a := by
  induction bs generalizing m o with
  | nil => rfl
  | cons b bs ih =>
    have h0 := h 0 (by simp)
    rw [writeImage, ih (o + 1) (Memory.wf_write _ b hm)]
    · exact Memory.read_write_other b hm h0
    · intro i hi
      have := h (i + 1) (by simpa using hi)
      rwa [show o + 1 + i = o + (i + 1) by omega]

end Sys2Proof.Machine
end

