-- ==== Sys2Proof/Laws/PerInstr.lean ====
section
/-! SUPPORT. The per-command family RequestCode: a command that a frame can carry has a code of the
catalogue (R196), and an event has none. -/

namespace Sys2Proof.Laws.RequestCode

/-- The code a command is written under, if it is written at all, is a code of the catalogue. -/
def Statement (i : Instr) : Prop :=
  ∀ code body, writeRequest i = some (code, body) → code ∈ requestCodes

/-- A command that is written under one code satisfies the statement when the code is in the catalogue. -/
theorem of_code {i : Instr} {c : Nat} {bs : List Byte} (h : writeRequest i = some (c, bs))
    (hc : c ∈ requestCodes) : Statement i := by
  intro code body hw
  rw [h] at hw
  cases hw
  exact hc

/-- A command that no frame carries satisfies it. -/
theorem of_event {i : Instr} (h : writeRequest i = none) : Statement i := by
  intro code body hw
  rw [h] at hw
  cases hw

theorem powerReset : Statement (.powerReset) := of_event rfl
theorem pinReset : Statement (.pinReset) := of_event rfl
theorem partialFrameByte (c : Character) : Statement (.partialFrameByte c) := of_event rfl
theorem frameGapExpiry : Statement (.frameGapExpiry) := of_event rfl
theorem frameRejected (f : RawFrame) : Statement (.frameRejected f) := of_event rfl
theorem frameWhileBusy (f : RawFrame) : Statement (.frameWhileBusy f) := of_event rfl
theorem answerSent (rateHigh : Bool) : Statement (.answerSent rateHigh) := of_event rfl
theorem status : Statement (.status) := of_code rfl (by decide)
theorem reset : Statement (.reset) := of_code rfl (by decide)
theorem divisionPut (division : Nat) (record : DivisionArg) : Statement (.divisionPut division record) :=
  of_code rfl (by decide)
theorem divisionClear (division : Nat) : Statement (.divisionClear division) := of_code rfl (by decide)
theorem divisionQuery (division : Nat) : Statement (.divisionQuery division) := of_code rfl (by decide)
theorem organPut (values : OrganArg) : Statement (.organPut values) := of_code rfl (by decide)
theorem survey : Statement (.survey) := of_code rfl (by decide)
theorem closingSequenceComplete : Statement (.closingSequenceComplete) := of_event rfl
theorem resetClearingShiftComplete : Statement (.resetClearingShiftComplete) := of_event rfl
theorem surveyReturn (count : Nat) : Statement (.surveyReturn count) := of_event rfl
theorem surveyNoReturn : Statement (.surveyNoReturn) := of_event rfl
theorem scanStart : Statement (.scanStart) := of_event rfl
theorem scanComplete (returned : ChestImage) (sense : SenseImage) : Statement (.scanComplete returned sense) :=
  of_event rfl
theorem tuneOpen (tuneId length : Nat) : Statement (.tuneOpen tuneId length) := of_code rfl (by decide)
theorem tuneData (bytes : List Byte) : Statement (.tuneData bytes) := of_code rfl (by decide)
theorem validationSuccess : Statement (.validationSuccess) := of_event rfl
theorem validationFailure : Statement (.validationFailure) := of_event rfl
theorem tuneAbort (tuneId : Nat) : Statement (.tuneAbort tuneId) := of_code rfl (by decide)
theorem tuneRetire (tuneId : Nat) : Statement (.tuneRetire tuneId) := of_code rfl (by decide)
theorem tuneQuery (which : TuneRef) : Statement (.tuneQuery which) := of_code rfl (by decide)
theorem loadResult : Statement (.loadResult) := of_code rfl (by decide)
theorem itemPut (index : Nat) (item : ItemArg) : Statement (.itemPut index item) := of_code rfl (by decide)
theorem itemReplace (index : Nat) (item : ItemArg) : Statement (.itemReplace index item) :=
  of_code rfl (by decide)
theorem itemRemove (index : Nat) : Statement (.itemRemove index) := of_code rfl (by decide)
theorem itemQuery (index : Nat) : Statement (.itemQuery index) := of_code rfl (by decide)
theorem regPut (index : Nat) (reg : Registration) : Statement (.regPut index reg) := of_code rfl (by decide)
theorem regQuery (index : Nat) : Statement (.regQuery index) := of_code rfl (by decide)
theorem micPut (channel : Nat) (params : MicArg) : Statement (.micPut channel params) :=
  of_code rfl (by decide)
theorem micQuery (channel : Nat) : Statement (.micQuery channel) := of_code rfl (by decide)
theorem samplePairComplete (input : Nat) (low high : List Bool) : Statement (.samplePairComplete input low high) :=
  of_event rfl
theorem inputLost (input : Nat) : Statement (.inputLost input) := of_event rfl
theorem lastOnsetExpiry (channel : Nat) : Statement (.lastOnsetExpiry channel) := of_event rfl
theorem lastReleaseExpiry (channel : Nat) : Statement (.lastReleaseExpiry channel) := of_event rfl
theorem matchPut (mode mergeWindow : Nat) : Statement (.matchPut mode mergeWindow) := of_code rfl (by decide)
theorem candidateExpiry (channel : Nat) : Statement (.candidateExpiry channel) := of_event rfl
theorem windowCloseExpiry : Statement (.windowCloseExpiry) := of_event rfl
theorem matchedTimeExpiry (anchor : Nat) : Statement (.matchedTimeExpiry anchor) := of_event rfl
theorem trackPut (params : TrackArg) : Statement (.trackPut params) := of_code rfl (by decide)
theorem trackQuery (part : Nat) (start : Option Nat) : Statement (.trackQuery part start) :=
  of_code rfl (by decide)
theorem rebase : Statement (.rebase) := of_event rfl
theorem fermataExpiry : Statement (.fermataExpiry) := of_event rfl
theorem maximumEndExpiry : Statement (.maximumEndExpiry) := of_event rfl
theorem lastMatchedAnchorExpiry : Statement (.lastMatchedAnchorExpiry) := of_event rfl
theorem referenceTimeExpiry : Statement (.referenceTimeExpiry) := of_event rfl
theorem play (index startMode : Nat) : Statement (.play index startMode) := of_code rfl (by decide)
theorem gapEnd : Statement (.gapEnd) := of_event rfl
theorem schedulingExpiry : Statement (.schedulingExpiry) := of_event rfl
theorem stopItem : Statement (.stopItem) := of_code rfl (by decide)
theorem cancelAll : Statement (.cancelAll) := of_code rfl (by decide)
theorem readerPut (horizon : Nat) : Statement (.readerPut horizon) := of_code rfl (by decide)
theorem cueContactClosed (button : Button) : Statement (.cueContactClosed button) := of_event rfl
theorem cueContactOpened (button : Button) : Statement (.cueContactOpened button) := of_event rfl
theorem cueDebounceExpiry (button : Button) : Statement (.cueDebounceExpiry button) := of_event rfl
theorem lastCueExpiry : Statement (.lastCueExpiry) := of_event rfl
theorem onTimeExpiry (slot : Nat) : Statement (.onTimeExpiry slot) := of_event rfl
theorem offTimeExpiry (slot : Nat) : Statement (.offTimeExpiry slot) := of_event rfl
theorem deadlineExpiry (slot : Nat) : Statement (.deadlineExpiry slot) := of_event rfl
theorem keyLookup (which : KeyRef) : Statement (.keyLookup which) := of_code rfl (by decide)
theorem keyList (start : Option Nat) : Statement (.keyList start) := of_code rfl (by decide)
theorem keySound (division key duration : Nat) : Statement (.keySound division key duration) :=
  of_code rfl (by decide)
theorem keyRelease (which : KeyRef) : Statement (.keyRelease which) := of_code rfl (by decide)
theorem keyHold (slot : Nat) : Statement (.keyHold slot) := of_code rfl (by decide)
theorem stopsApply (registration : Nat) : Statement (.stopsApply registration) := of_code rfl (by decide)
theorem pulseEndExpiry (division stop : Nat) : Statement (.pulseEndExpiry division stop) := of_event rfl
theorem stopTimeoutExpiry (division stop : Nat) : Statement (.stopTimeoutExpiry division stop) := of_event rfl
theorem applyTickExpiry (which : ApplyTick) : Statement (.applyTickExpiry which) := of_event rfl
theorem stopsQuery (division : Nat) (start : Option Nat) : Statement (.stopsQuery division start) :=
  of_code rfl (by decide)
theorem swellPut (output slew : Nat) : Statement (.swellPut output slew) := of_code rfl (by decide)
theorem swellUpdate : Statement (.swellUpdate) := of_event rfl
theorem swellPeriodStart : Statement (.swellPeriodStart) := of_event rfl
theorem eventsRead : Statement (.eventsRead) := of_code rfl (by decide)
theorem eventsAck (set : BitVec 24) : Statement (.eventsAck set) := of_code rfl (by decide)
theorem eventsMask (set : BitVec 24) : Statement (.eventsMask set) := of_code rfl (by decide)
theorem eventsForce (set : BitVec 24) : Statement (.eventsForce set) := of_code rfl (by decide)
theorem countersRead (start : Option Nat) : Statement (.countersRead start) := of_code rfl (by decide)
theorem countersClear : Statement (.countersClear) := of_code rfl (by decide)
theorem resetEnd (rateHigh : Bool) : Statement (.resetEnd rateHigh) := of_event rfl

end Sys2Proof.Laws.RequestCode
end

