-- ==== Sys2Proof/Tests/Slice0.lean ====
section
/-! SUPPORT. Tests. First what WellFormed refuses and accepts, then examples worked in the spec or by hand
from its layouts, and then, for each obligation that has hypotheses, states and operands that meet those
of each of its clauses. The number in a test's comment is the section of spec/ its expected result is
taken from. -/

namespace Sys2Proof.Tests

open Sys2Proof Sys2Proof.Machine

/-! ### Terms that WellFormed refuses -/

/-- A record of n stops with nothing out of its bytes. -/
def plainDivision (n : Nat) : DivisionArg :=
  { lowest := 36, keys := 12, firstOutput := 0, stopCount := n
    stops := (List.range n).map (fun i => ⟨100 + 2 * i, 101 + 2 * i, i⟩)
    transport := none, articulation := none, repeatGap := none, swell := 0 }

def plainOrgan : OrganArg := ⟨30, 20000, 60, 400, 8192, 131072⟩

def plainItem : ItemArg :=
  { tuneId := 1, verseCount := 1, giveOutMode := 0, giveOutReg := none, verseRegs := [0], amenFlag := 0
    tempo := none, endAction := 0, introGap := none, verseGap := none }

/-- The power-up registration with these routes of voice 0. -/
def routed (l : List Route) : Registration := { Registration.powerUp with voices := l :: List.replicate 5 [] }

theorem test_wf_accepts :
    (Instr.divisionPut 255 (plainDivision 16)).wf = true ∧ (Instr.organPut plainOrgan).wf = true ∧
    (Instr.itemPut 0 plainItem).wf = true ∧ (Instr.regPut 0 (routed (List.replicate 16 ⟨0, -12⟩))).wf = true ∧
    (Instr.tuneData (List.replicate 48 0)).wf = true ∧ (Instr.trackQuery 3 (some 255)).wf = true ∧
    (Instr.frameRejected ⟨[0x01#8], 0⟩).wf = true ∧ (Instr.surveyReturn 1024).wf = true ∧
    (Instr.divisionPut 0 { plainDivision 1 with stopCount := 255 }).wf = true := by decide
theorem test_wf_division_index : (Instr.divisionPut 256 (plainDivision 1)).wf = false := by decide
theorem test_wf_division_body : (Instr.divisionPut 0 (plainDivision 17)).wf = false := by decide
theorem test_wf_division_fields :
    (Instr.divisionPut 0 { plainDivision 0 with lowest := 256 }).wf = false ∧
    (Instr.divisionPut 0 { plainDivision 0 with keys := 256 }).wf = false ∧
    (Instr.divisionPut 0 { plainDivision 0 with firstOutput := 65536 }).wf = false ∧
    (Instr.divisionPut 0 { plainDivision 0 with stopCount := 256 }).wf = false ∧
    (Instr.divisionPut 0 { plainDivision 0 with transport := some 65536 }).wf = false ∧
    (Instr.divisionPut 0 { plainDivision 0 with articulation := some 256 }).wf = false ∧
    (Instr.divisionPut 0 { plainDivision 0 with repeatGap := some 256 }).wf = false ∧
    (Instr.divisionPut 0 { plainDivision 0 with swell := 256 }).wf = false := by decide
theorem test_wf_stop_entry :
    (⟨512, 0, 0⟩ : StopWiring).wf = false ∧ (⟨0, 512, 0⟩ : StopWiring).wf = false ∧
    (⟨0, 0, 64⟩ : StopWiring).wf = false ∧
    (Instr.divisionPut 0 { plainDivision 1 with stops := [⟨0, 0, 64⟩] }).wf = false := by decide
theorem test_wf_organ_fields :
    (Instr.organPut { plainOrgan with minSpeak := 256 }).wf = false ∧
    (Instr.organPut { plainOrgan with cipherGuard := 65536 }).wf = false ∧
    (Instr.organPut { plainOrgan with pulseTime := 256 }).wf = false ∧
    (Instr.organPut { plainOrgan with stopTimeout := 65536 }).wf = false ∧
    (Instr.organPut { plainOrgan with levelLow := 16777216 }).wf = false ∧
    (Instr.organPut { plainOrgan with levelHigh := 16777216 }).wf = false := by decide
theorem test_wf_item_fields :
    (Instr.itemPut 256 plainItem).wf = false ∧ (Instr.itemReplace 256 plainItem).wf = false ∧
    (Instr.itemPut 0 { plainItem with tuneId := 65536 }).wf = false ∧
    (Instr.itemPut 0 { plainItem with verseCount := 256 }).wf = false ∧
    (Instr.itemPut 0 { plainItem with giveOutMode := 256 }).wf = false ∧
    (Instr.itemPut 0 { plainItem with giveOutReg := some 256 }).wf = false ∧
    (Instr.itemPut 0 { plainItem with verseRegs := [256] }).wf = false ∧
    (Instr.itemPut 0 { plainItem with verseRegs := List.replicate 41 0 }).wf = false ∧
    (Instr.itemPut 0 { plainItem with amenFlag := 256 }).wf = false ∧
    (Instr.itemPut 0 { plainItem with endAction := 256 }).wf = false ∧
    (Instr.itemPut 0 { plainItem with introGap := some 65536 }).wf = false ∧
    (Instr.itemReplace 0 { plainItem with verseGap := some 65536 }).wf = false := by decide
theorem test_wf_tempo_override :
    (⟨16777216, none, none⟩ : TempoOverride).wf = false ∧ (⟨0, some 16777216, none⟩ : TempoOverride).wf = false ∧
    (⟨0, none, some 16777216⟩ : TempoOverride).wf = false ∧
    (Instr.itemPut 0 { plainItem with tempo := some ⟨16777216, none, none⟩ }).wf = false := by decide
theorem test_wf_registration :
    (Instr.regPut 256 Registration.powerUp).wf = false ∧
    (Instr.regPut 0 { Registration.powerUp with divisions := [] }).wf = false ∧
    (Instr.regPut 0 { Registration.powerUp with voices := [] }).wf = false ∧
    (Instr.regPut 0 (routed (List.replicate 17 ⟨0, 0⟩))).wf = false ∧
    (Instr.regPut 0 (routed [⟨256, 0⟩])).wf = false ∧ (Instr.regPut 0 (routed [⟨0, 128⟩])).wf = false ∧
    (Instr.regPut 0 (routed [⟨0, -129⟩])).wf = false ∧
    (⟨0, 65536, 0⟩ : DivisionEntry).wf = false ∧ (⟨0, 0, 65536⟩ : DivisionEntry).wf = false := by decide
theorem test_wf_parameters :
    (Instr.micPut 256 ⟨0, 0, 0, 0, 0, 0, 0⟩).wf = false ∧ (Instr.micPut 0 ⟨256, 0, 0, 0, 0, 0, 0⟩).wf = false ∧
    (Instr.micPut 0 ⟨0, 0, 0, 16777216, 0, 0, 0⟩).wf = false ∧
    (Instr.micPut 0 ⟨0, 0, 0, 0, 65536, 0, 0⟩).wf = false ∧
    (Instr.trackPut ⟨256, 0, 0, 0, 0, 0, 0⟩).wf = false ∧ (Instr.trackPut ⟨0, 0, 0, 0, 0, 65536, 0⟩).wf = false ∧
    (Instr.matchPut 256 0).wf = false ∧ (Instr.matchPut 0 256).wf = false ∧
    (Instr.readerPut 65536).wf = false ∧ (Instr.swellPut 256 0).wf = false ∧ (Instr.swellPut 0 256).wf = false ∧
    (Instr.play 256 0).wf = false ∧ (Instr.play 0 256).wf = false := by decide
theorem test_wf_indexes :
    (Instr.divisionClear 256).wf = false ∧ (Instr.divisionQuery 256).wf = false ∧
    (Instr.itemRemove 256).wf = false ∧ (Instr.itemQuery 256).wf = false ∧ (Instr.regQuery 256).wf = false ∧
    (Instr.micQuery 256).wf = false ∧ (Instr.keyHold 256).wf = false ∧ (Instr.stopsApply 256).wf = false ∧
    (Instr.keySound 256 0 0).wf = false ∧ (Instr.keySound 0 256 0).wf = false ∧
    (Instr.keySound 0 0 65536).wf = false ∧ (Instr.stopsQuery 256 none).wf = false ∧
    (Instr.tuneOpen 65536 0).wf = false ∧ (Instr.tuneOpen 0 65536).wf = false ∧
    (Instr.tuneAbort 65536).wf = false ∧ (Instr.tuneRetire 65536).wf = false := by decide
theorem test_wf_starts :
    (Instr.keyList (some 256)).wf = false ∧ (Instr.stopsQuery 0 (some 256)).wf = false ∧
    (Instr.countersRead (some 256)).wf = false ∧ (Instr.trackQuery 256 none).wf = false ∧
    (Instr.trackQuery 2 (some 0)).wf = false ∧ (Instr.trackQuery 3 (some 256)).wf = false := by decide
theorem test_wf_forms :
    (Instr.tuneQuery (.byId 65536)).wf = false ∧ (Instr.tuneQuery (.byEntry 256)).wf = false ∧
    (Instr.tuneQuery (.badForm 0 [0])).wf = false ∧ (Instr.tuneQuery (.badForm 2 [])).wf = false ∧
    (Instr.keyLookup (.bySlot 256)).wf = false ∧ (Instr.keyRelease (.byKey 256 0)).wf = false ∧
    (Instr.keyRelease (.byKey 0 256)).wf = false ∧ (Instr.keyLookup (.badForm 1 [0])).wf = false := by decide
theorem test_wf_bytes :
    (Instr.tuneData []).wf = false ∧ (Instr.tuneData (List.replicate 49 0)).wf = false ∧
    (Instr.frameRejected ⟨[], 0⟩).wf = false ∧ (Instr.frameWhileBusy ⟨List.replicate 65 0, 0⟩).wf = false := by
  decide
theorem test_wf_things_that_exist :
    (Instr.surveyReturn 1025).wf = false ∧ (Instr.samplePairComplete 2 [] []).wf = false ∧
    (Instr.inputLost 2).wf = false ∧ (Instr.lastOnsetExpiry 4).wf = false ∧
    (Instr.lastReleaseExpiry 4).wf = false ∧ (Instr.candidateExpiry 4).wf = false ∧
    (Instr.matchedTimeExpiry 128).wf = false ∧ (Instr.onTimeExpiry 128).wf = false ∧
    (Instr.offTimeExpiry 128).wf = false ∧ (Instr.deadlineExpiry 128).wf = false ∧
    (Instr.pulseEndExpiry 4 0).wf = false ∧ (Instr.pulseEndExpiry 0 16).wf = false ∧
    (Instr.stopTimeoutExpiry 4 0).wf = false ∧ (Instr.stopTimeoutExpiry 0 16).wf = false := by decide

/-! ### Examples worked in the spec -/

/-- No word of the table spells a command, since no row of it gives bits, and none enters the queue. -/
theorem test_no_word_spells_a_command :
    decodeTableWord 8 0x01 = none ∧ (State.reset.withFetchWord 8 0x01).pending = [] := by decide

/-- 10.9: STATUS as the frame 7E 01 01 FE, and EVENTS READ as 7E 01 40 BF. -/
theorem test_status_frame :
    frameOnLine [0x01#8] = [0x7E#8, 0x01#8, 0x01#8, 0xFE#8] ∧
    frameOnLine [0x40#8] = [0x7E#8, 0x01#8, 0x40#8, 0xBF#8] ∧
    examine ⟨[0x01#8], 0xFE#8⟩ = .request .status ∧ examine ⟨[0x40#8], 0xBF#8⟩ = .request .eventsRead := by decide

/-- 10.9: the REJECT BUSY of code 0x40 is 7E 04 FF 40 04 00 B9. -/
theorem test_reject_frame :
    frameOnLine ((rejectAnswer 0x40 .busy 0).code :: (rejectAnswer 0x40 .busy 0).body) =
      [0x7E#8, 0x04#8, 0xFF#8, 0x40#8, 0x04#8, 0x00#8, 0xB9#8] := by decide

/-- R196: a sum that is not 0, a code that is none, and a body too short. -/
theorem test_failing_frames :
    examine ⟨[0x01#8], 0xFF#8⟩ = .badSum ∧ examine ⟨[0x03#8], 0xFC#8⟩ = .unknownCode ∧
    examine ⟨[0x09#8], 0xF6#8⟩ = .badLength := by decide

/-- 10.9: the event bytes 00 00 F0 84, and its first note 80 43 00 F0. -/
theorem test_event_bytes :
    eventOf 0x0000F084 = ({ position := 240, anchor := true, fermata := false, lineEnd := false, amen := false,
                            notes := [] }, 4) ∧
    noteOf 0x804300F0 = { tie := true, voice := 0, pitch := 67, duration := 240 } := by decide

/-- 1.5: the highest outputs and the sense chain of the church's first two divisions. -/
def great : Division :=
  { lowest := 36, keys := 61, firstOutput := 0
    stops := (List.range 10).map (fun s => ⟨64 + 2 * s, 65 + 2 * s, s⟩)
    transport := 160, articulation := 40, repeatGap := 30, swell := none }
def chancel : Division :=
  { lowest := 48, keys := 49, firstOutput := 192
    stops := (List.range 4).map (fun s => ⟨256 + 2 * s, 257 + 2 * s, 32 + s⟩)
    transport := 20, articulation := 40, repeatGap := 30, swell := none }
theorem test_survey_verdicts :
    great.highest = 96 ∧ great.stops[3]? = some ⟨70, 71, 3⟩ ∧
    verdictFor (16 * (256 / 16)) (some great) = some .present ∧
    verdictFor (16 * (256 / 16)) (some chancel) = some .absent ∧
    verdictFor (16 * (272 / 16)) (some chancel) = some .present ∧
    senseBoardsFor [some great, none, some chancel, none] = 3 := by decide

/-- 4.8: the channel in the gallery. -/
def gallery : Channel := { Channel.quiet ⟨true, 35, 24, 4096, 120, 6, 4⟩ with level := 1600 }
theorem test_onset_of_a_chord :
    levelAfter 1600 1640 = 1605 ∧ makesOnset gallery 1640 50004 = false ∧
    (workFrame { gallery with level := 1605 } 9800 50008).2 = .onset 49971 9800 ∧
    (workFrame { gallery with level := 1605 } 9800 50008).1.peak = some 2629 ∧
    (workFrame (workFrame { gallery with level := 1605 } 9800 50008).1 24000 50012).2 = .none ∧
    (workFrame (workFrame { gallery with level := 1605 } 9800 50008).1 24000 50012).1.peak = some 5300 := by decide
theorem test_release_of_a_chord :
    levelAfter 26500 2000 = 23437 ∧
    workFrame { gallery with voiced := true, level := 8443, peak := some 30000, run := 3, runStart := some 51036 }
        2000 51048 =
      ({ gallery with level := 7637, lastRelease := some 50999 }, .release 50999) := by decide

/-- 6.8: one correction. -/
def following : Tracker :=
  { Tracker.afterReset .powerUp with
    state := .following, refTime := some 101500, refPos := 480, period := 192000
    bounds := some ⟨160000, 240000, 192000⟩, tag := some 1, inPlay := true, matched := true
    lastAnchor := some ⟨480, 101520⟩ }
theorem test_correction :
    following.timeOf 960 = 103000 ∧ following.windowTicks = 250 ∧
    (following.corrected 960 103060).refTime = some 103030 ∧ (following.corrected 960 103060).period = 193280 ∧
    (following.corrected 960 103060).windowTicks = 251 ∧
    (following.corrected 960 103060).timeOf 1200 = 103785 ∧
    (following.corrected 960 103060).timeOf 1440 = 104540 := by decide

/-- 9.7: targets and duties of output 0. -/
theorem test_swell_follows :
    swellTarget ⟨30, 20000, 60, 400, 10000, 110000⟩ ⟨0, 200, 900⟩ 60000 = 550 ∧
    swellTarget ⟨30, 20000, 60, 400, 10000, 110000⟩ ⟨0, 200, 900⟩ 130000 = 900 ∧
    swellTarget ⟨30, 20000, 60, 400, 10000, 110000⟩ ⟨0, 200, 900⟩ 4000 = 200 ∧
    slewTo 400 32 550 = 432 ∧ slewTo 528 32 550 = 550 ∧ slewTo 582 32 200 = 550 ∧
    ({ SwellOutput.powerUp with driven := 550 } : SwellOutput).highMicroseconds = 10742 := by decide

/-- R140: keys outside a compass of 36 to 96 fold by octaves into it. -/
theorem test_fold_into_compass :
    great.foldKey 35 = 47 ∧ great.foldKey 97 = 85 ∧ great.foldKey 36 = 36 ∧ great.foldKey 96 = 96 ∧
    great.foldKey 23 = 47 := by decide

/-- R1: differences and expiries wrap at 2^32. -/
theorem test_times_wrap :
    timeDiff 5 0xFFFFFFFB = 10 ∧ hasCome 5 0xFFFFFFFB = true ∧ hasCome 0xFFFFFFFB 5 = false ∧
    hasCome 7 7 = true := by decide

/-! ### States for the witnesses -/

/-- One stop, one manual of 12 keys. -/
def manual : Division :=
  { lowest := 36, keys := 12, firstOutput := 0, stops := [⟨100, 101, 0⟩], transport := 0, articulation := 40
    repeatGap := 30, swell := some 0 }

/-- A 22-byte tune: id 1, one voice, one event at 0 that is an anchor and a line's end, one note. -/
def image : List Byte :=
  [0x00, 0x01, 0x20, 0x00, 0x00, 0x02, 0x5D, 0xC0, 0x04, 0xE2, 0x00, 0x75, 0x30, 0x00, 0x00, 0x00, 0x00, 0xA1,
   0x00, 0x3C, 0x00, 0xF0]

def tuneDerived : Derived :=
  { eventCount := 1, verseEvents := 1, lines := 1, verseAnchors := 1, amenAnchors := 0, verseLength := 240
    amenPresent := false, amenStart := none, amenEnd := none }

def readyEntry : Entry :=
  { state := .ready, tuneId := 1, length := 22, blocks := [0], cursor := 22, derived := some tuneDerived
    lineEndSupplied := false }
def loadingEntry : Entry :=
  { state := .loading, tuneId := 2, length := 22, blocks := [1], cursor := 0, derived := none
    lineEndSupplied := false }
def validatingEntry : Entry := { readyEntry with state := .validating, derived := none }

def stored : Memory := writeImage [] readyEntry 0 image

def hymns (l : List (Option Entry)) : Library :=
  { entries := l ++ List.replicate (48 - l.length) none, mem := stored, lastLoad := none }

def hymn : Item :=
  { tuneId := 1, giveOut := .none, giveOutReg := none, verseRegs := [0], amen := false, tempo := none
    endAction := .halt, introGap := 240, verseGap := 240 }

def drawnReg : Registration :=
  { divisions := [⟨1, 200, 900⟩, ⟨0, 0, 1023⟩, ⟨0, 0, 1023⟩, ⟨0, 0, 1023⟩]
    voices := [⟨0, 0⟩, ⟨1, 0⟩] :: List.replicate 5 [] }

/-- A part with its chain RUNNING, one division PRESENT, one tune READY, one LOADING, and one item. -/
def up : State :=
  { State.reset with
    clock := 5000
    organ := { divisions := [some manual, none, none, none], settings := .powerUp, senseBoards := 1 }
    chain := { State.reset.chain with
      phase := .running, length := some 7, verdicts := [some .present, none, none, none], shift := .none
      nextScan := some 5000 }
    library := hymns [some readyEntry, some loadingEntry]
    items := [hymn]
    regs := drawnReg :: List.replicate 31 Registration.powerUp
    swell := { State.reset.swell with nextUpdate := 5000, nextPeriod := 5000 }
    play := { State.reset.play with
      stops := [[.fresh], [], [], []]
      reader := { State.reset.play.reader with
        cueGo := ⟨.opened, none⟩, cueHold := ⟨.opened, none⟩, cueStop := ⟨.opened, none⟩ } } }

/-- What changes of `up` alone. -/
def withPlay (f : Play → Play) : State := { up with play := f up.play }
def withReader (f : Reader → Reader) : State := withPlay (fun p => { p with reader := f p.reader })
def withTracker (f : Tracker → Tracker) : State := withPlay (fun p => { p with tracker := f p.tracker })
def withMatcher (f : Matcher → Matcher) : State := withPlay (fun p => { p with matcher := f p.matcher })
def withChain (f : Chain → Chain) : State := { up with chain := f up.chain }
def withLink (f : Link → Link) : State := { up with link := f up.link }

/-- A hymn in hand: its one verse PLAYING since tick 4000, nothing scheduled yet. -/
def singing : State :=
  withPlay (fun p => { p with
    cursor := some 0, inUse := some 0
    tracker := { p.tracker with
      state := .following, refTime := some 4000, refPos := 0, period := 192000
      bounds := some ⟨160000, 240000, 192000⟩, tag := some 1, inPlay := true, matched := true }
    matcher := { p.matcher with
      state := .opened, tag := some 1, anchors := [⟨0, .pending, none, none⟩], windowClose := some 4250 }
    reader := { p.reader with
      flow := .playing, plan := some [.verse 1], inHand := some 0, tag := 1, cursor := some (.event 0)
      schedAt := some 3600, tempo := some ⟨160000, 240000, 192000⟩ } })

/-- A change of `singing`. -/
def sing (f : Play → Play) : State := { singing with play := f singing.play }

/-- A play with one record, in slot 0. -/
def oneRecord (r : KeyRecord) (p : Play) : Play := { p with slots := some r :: List.replicate 127 none }

/-- Of a list with one record, every record is that one. -/
theorem oneRecord_only {r x : KeyRecord} {p : Play} {j : Nat} (h : (oneRecord r p).record j = some x) :
    j = 0 ∧ x = r := by
  rw [Play.record_eq_some] at h
  cases j with
  | zero => exact ⟨rfl, by simpa [oneRecord, eq_comm] using h⟩
  | succ j =>
    simp only [oneRecord, List.getElem?_cons_succ] at h
    cases List.eq_of_mem_replicate (List.mem_of_getElem? h)

/-- With every slot free there is no record. -/
theorem noRecord {p : Play} (hp : p.slots = List.replicate 128 none) {x : KeyRecord} {j : Nat} :
    p.record j ≠ some x := by
  rw [Ne, Play.record_eq_some, hp]
  intro h
  cases List.eq_of_mem_replicate (List.mem_of_getElem? h)

/-- A note of the verse on key 36, and one of the host's. -/
def verseRec : KeyRecord :=
  { division := 0, key := 36, state := .scheduled, origin := .score, voices := 1, priority := 0
    span := some ⟨0, 240, 1⟩, onTime := 5000, offTime := some 5500, deadline := none, successor := none
    holdKind := none }
def soundRec : KeyRecord := { verseRec with state := .sounding, onTime := 4000, offTime := some 5000, deadline := some 5000 }
def hostRec : KeyRecord := { soundRec with origin := .planner, span := none, priority := 3 }

theorem test_states_are_what_they_say :
    validate up.library.mem validatingEntry = .ok (tuneDerived, none) ∧
    (singing.toEnv.playingTune singing.play).isSome = true ∧ singing.toEnv.eventAtCursor singing.play ≠ none ∧
    (up.toEnv.presentDivision 0) = some manual ∧ (up.toEnv.presentDivision 1) = none := by decide

/-! ### Witnesses: the step and the whole part -/

theorem witness_EmptyQueueStep :
    (up.pending = [] ∧ ({ up with inReset := true } : State).inReset = true) ∧
    (withPlay (fun p => p.push .sectionTest)).play.atOnce ≠ [] ∧ up.dueEvents ≠ [] ∧
    ({ up with clock := 4999 } : State).dueEvents = [] := by decide
theorem witness_CommandsWaitForResetEnd :
    ({ up with inReset := true } : State).inReset = true ∧ Instr.status ≠ .powerReset ∧
    Instr.status ≠ .pinReset ∧ ∀ r, Instr.status ≠ .resetEnd r :=
  ⟨rfl, by decide, by decide, fun _ h => nomatch h⟩
/-- The receiver in each of its states, on a free link. -/
def receiving (st : ReceiverState) : State := withLink (fun l => { l with receiver := ⟨st, 1, [], some 5000⟩ })
/-- Every state of a receiver from which the frame of STATUS completes. -/
theorem status_completes :
    FrameCompletes up.link.receiver (frameOf 0x01 []) ∧ FrameCompletes ⟨.length, 0, [], some 5011⟩ (frameOf 0x01 []) ∧
    FrameCompletes ⟨.body, 1, [], some 5011⟩ (frameOf 0x01 []) ∧
    FrameCompletes ⟨.check, 1, [0x01#8], some 5011⟩ (frameOf 0x01 []) :=
  ⟨.inl rfl, .inr (.inl rfl), .inr (.inr (.inl ⟨rfl, rfl, List.nil_prefix⟩)), .inr (.inr (.inr ⟨rfl, rfl, rfl⟩))⟩
theorem witness_LinkAnswersFramesInTurn_completes :
    writeRequest .status = some (0x01, []) ∧ frameOf 0x01 [] = ⟨[0x01#8], 0xFF#8 - 1#8⟩ ∧
    FrameCompletes up.link.receiver ⟨[0x03#8], 0xFF#8⟩ ∧ refusalOf ⟨[0x03#8], 0xFC#8⟩ = some (.unknown, 0) :=
  ⟨rfl, by decide, .inl rfl, by decide⟩
theorem witness_LinkAnswersFramesInTurn :
    (writeRequest .survey = some (0x0C, []) ∧ up.inReset = false ∧ up.link.busy = false ∧
      (withLink (fun l => { l with busy := true })).link.busy = true ∧
      (withLink (fun l => { l with busy := true })).link.waiting = none) ∧
    ((withLink (fun l => { l with busy := true, waiting := some ⟨0, []⟩ })).link.busy = true ∧
      (withLink (fun l => { l with busy := true, waiting := some ⟨0, []⟩ })).link.waiting.isSome = true) ∧
    (refusalOf ⟨[0x01#8], 0xFF#8⟩ = some (.badFrame, 1) ∧ refusalOf ⟨[0x03#8], 0xFC#8⟩ = some (.unknown, 0) ∧
      refusalOf ⟨[0x01#8], 0xFE#8⟩ = none) ∧
    ((withLink (fun l => { l with answer := some ⟨0, []⟩ })).inReset = false ∧
      (withLink (fun l => { l with answer := some ⟨0, []⟩ })).link.resetPending = false ∧
      (withLink (fun l => { l with answer := some ⟨0, []⟩ })).link.answer.isSome = true) := by decide
theorem witness_RequestFramesReadBack :
    (Instr.divisionPut 255 (plainDivision 16)).wf = true ∧
    writeRequest (.divisionPut 255 (plainDivision 16)) =
      some (0x08, putDivisionArg 255 (plainDivision 16)) := ⟨by decide, rfl⟩
theorem witness_ResetsKeepPreparedWork :
    (withLink (fun l => { l with answer := some ⟨0x82#8, []⟩, resetPending := true })).inReset = false ∧
    (withLink (fun l => { l with answer := some ⟨0x82#8, []⟩, resetPending := true })).link.answer.isSome = true ∧
    (withLink (fun l => { l with answer := some ⟨0x82#8, []⟩, resetPending := true })).link.resetPending = true := by
  decide
theorem witness_FrameLayout_line :
    (withLink (fun l => { l with answer := some ⟨0x82#8, []⟩ })).link.answer = some ⟨0x82#8, []⟩ := rfl
theorem witness_FrameLayout : (List.replicate 63 (0 : Byte)).length ≤ 63 ∧ ([] : List Byte).length ≤ 63 ∧
    (receiving .length).inReset = false ∧ (receiving .length).link.receiver.state = .length ∧
    (receiving .length).link.busy = false ∧ (0#8).toNat = 0 ∧ 64 < (65#8).toNat := by decide
theorem witness_ReceiverTakesBytes :
    (up.inReset = false ∧ up.link.receiver.state = .hunt) ∧
    ((receiving .length).link.receiver.state = .length ∧ 1 ≤ (1#8).toNat ∧ (64#8).toNat ≤ 64) ∧
    ((receiving .length).link.busy = false ∧ (0#8).toNat = 0 ∧ 64 < (65#8).toNat) ∧
    (receiving .body).link.receiver.state = .body ∧
    ((receiving .check).link.receiver.state = .check ∧ examine ⟨[0x01#8], 0xFE#8⟩ = .request .status ∧
      refusalOf ⟨[0x01#8], 0xFF#8⟩ = some (.badFrame, 1)) := by decide
/-- Part of another frame is kept: one byte is to come, where the frame of TRACK QUERY has two. -/
theorem witness_ReceiverTakesBytes_otherFrame :
    ¬ FrameCompletes (receiving .body).link.receiver (frameOf 0x24 [3#8]) ∧
    writeRequest (.trackQuery 3 none) = some (0x24, [3#8]) ∧ (receiving .body).inReset = false ∧
    (withLink (fun l => { l with busy := true, waiting := some ⟨0, []⟩ })).link.waiting.isSome = true := by
  refine ⟨fun h => ?_, rfl, rfl, rfl⟩
  rcases h with h | h | ⟨-, h, -⟩ | ⟨h, -⟩
  · exact absurd h (by decide)
  · exact absurd h (by decide)
  · exact absurd h (by decide)
  · exact absurd h (by decide)

theorem ready_up : Ready up := ⟨rfl, rfl, rfl⟩
theorem ready_singing : Ready singing := ⟨rfl, rfl, rfl⟩
theorem awake_up : Awake up := rfl
theorem awake_singing : Awake singing := rfl
theorem settled_up : Settled up := rfl
theorem settled_singing : Settled singing := rfl

theorem witness_StatusResetAndCounters :
    Ready up ∧ (singing.play.tracker.posAt singing.clock).isSome = true ∧
    (withReader (fun rd => { rd with lastCue := some ⟨.go, 4000, true⟩ })).play.reader.lastCue =
      some ⟨.go, 4000, true⟩ ∧ 38 < (some 39).getD 0 ∧ ¬ 38 < (some 38).getD 0 :=
  ⟨ready_up, by decide, rfl, by decide, by decide⟩
theorem witness_LatchesStayUntilAcknowledged :
    (∃ t, exec (.eventsAck 2) up = .next t) ∧ Instr.eventsAck 2 ≠ .powerReset ∧ Instr.eventsAck 2 ≠ .pinReset ∧
    (∀ r, Instr.eventsAck 2 = .answerSent r → up.link.resetPending = false) ∧
    up.play.latches.getLsbD 0 = true ∧ AckTaken up (.eventsAck 2) 2 ∧
    (∀ set : BitVec 24, AckTaken up (.eventsAck 2) set → set.toNat < 2 ^ 19 → set.getLsbD 0 = false) ∧
    Ready up ∧ 2 ^ 19 ≤ (0x080000#24).toNat ∧ ¬ 2 ^ 19 ≤ (0x07FFFF#24).toNat := by
  refine ⟨⟨_, rfl⟩, by decide, by decide, (fun _ h => by cases h), by decide, ?_, fun set h _ => ?_, ready_up, by decide,
    by decide⟩
  · exact .inl ⟨rfl, rfl, _, _, rfl, .inl rfl⟩
  · rcases h with ⟨h, -⟩ | ⟨_, _, _, _, (⟨_, h, -⟩ | ⟨f, h, -⟩), -⟩
    · cases h; decide
    · cases h
    · exact absurd (.inl rfl) h
/-- The last byte of the frame of EVENTS ACK, of a set that names latch RESET. -/
theorem witness_LatchesStayUntilAcknowledged_byte :
    AckTaken (withLink (fun l => { l with receiver := ⟨.check, 4, [0x41#8, 0#8, 0#8, 1#8], some 5011⟩ }))
      (.partialFrameByte (goodCharacter 0xBA#8)) 1 :=
  .inr ⟨[], 0xBA#8, [], _, .inl ⟨_, rfl, rfl⟩, rfl, rfl, rfl, by decide⟩
theorem witness_MaskForceAndAttention :
    Ready up ∧ 2 ^ 19 ≤ (0x080000#24).toNat ∧ ¬ 2 ^ 19 ≤ (0x07FFFF#24).toNat ∧
    (∃ t, exec .powerReset up = .next t) ∧ (∃ t, exec .pinReset up = .next t) ∧
    (∃ t, exec (.answerSent true) up = .next t) :=
  ⟨ready_up, by decide, by decide, ⟨_, rfl⟩, ⟨_, rfl⟩, ⟨_, rfl⟩⟩
/-- A part that comes out of a PIN reset, and one whose RESET is answered, with RESET in the mask. -/
theorem witness_MaskForceAndAttention_afterResets :
    (∃ t, exec (.resetEnd true) { withLink (fun l => { l with mask := 1 }) with inReset := true } = .next t ∧
      t.attn = true) ∧
    (∃ t, exec (.answerSent true)
      (withLink (fun l => { l with mask := 1, answer := some ⟨0x82#8, []⟩, resetPending := true })) = .next t ∧
      t.attn = true) :=
  ⟨⟨_, rfl, by decide⟩, ⟨_, rfl, by decide⟩⟩

/-! ### Witnesses: invariants, of a part that is in use -/

/-- A step is taken from a state whose queue has a command. -/
def asked (s : State) : State := { s with pending := [.status] }
theorem asked_steps (s : State) : ∃ t, step (asked s) = .next t := ⟨_, rfl⟩

theorem witness_StepKeepsLibrary :
    MemoryOk (asked up) ∧ LibraryOk (asked up).library ∧ ∃ t, step (asked up) = .next t := by
  refine ⟨by unfold MemoryOk; decide, ?_, asked_steps up⟩
  unfold LibraryOk EntryOk; decide
theorem witness_StepKeepsServiceListAndTune :
    ServiceOk (asked singing) ∧ InUseOk (asked singing) ∧ ∃ t, step (asked singing) = .next t := by
  refine ⟨⟨by decide, fun it h => ?_, (fun c h => by cases h; decide), fun _ => rfl⟩,
    ⟨fun n h => by cases h; exact ⟨readyEntry, by decide, rfl⟩, fun _ => rfl⟩, asked_steps _⟩
  have : it = hymn := by simpa [asked, singing, withPlay, up] using h
  subst this
  exact ⟨by decide, by decide, by decide, by decide, by decide, (fun r h => by cases h), by decide, by decide, by decide⟩
theorem witness_StepKeepsReaderAndTracker :
    ReaderOk (asked singing).play.reader ∧ TrackerOk (asked singing).play.tracker ∧
    ∃ t, step (asked singing) = .next t := by
  refine ⟨by unfold ReaderOk; decide, by unfold TrackerOk; decide, asked_steps _⟩
/-- The one READY entry's tune has the header of 6.8's item. -/
theorem headers_up : HeadersOk up.library := by
  intro n en tune h hr ht
  have : en = readyEntry ∨ en = loadingEntry := by
    have hm := List.mem_of_getElem? (Option.join_eq_some_iff.mp h)
    have : some en ∈ [some readyEntry, some loadingEntry] ++ List.replicate 46 none := hm
    rcases List.mem_append.mp this with hm | hm
    · simpa using hm
    · cases List.eq_of_mem_replicate hm
  rcases this with rfl | rfl
  · have hh : tune.header = ⟨1, 1, [0, 0, 0, 0, 0, 0], 1, 192000, 160000, 240000⟩ := by
      have : (readTune up.library.mem readyEntry).map (·.header) =
        some ⟨1, 1, [0, 0, 0, 0, 0, 0], 1, 192000, 160000, 240000⟩ := by decide
      rw [ht] at this; simpa using this
    rw [hh]; decide
  · exact absurd hr (by decide)
theorem witness_StepKeepsReaderAndTracker_period :
    HeadersOk (asked singing).library ∧ ReaderOk (asked singing).play.reader ∧ PeriodOk (asked singing).play ∧
    MemoryOk (asked singing) ∧ LibraryOk (asked singing).library ∧ ∃ t, step (asked singing) = .next t := by
  refine ⟨headers_up, by unfold ReaderOk; decide, ⟨.inr (by decide), fun b h => ?_, fun b h => ?_, fun _ => rfl,
    fun _ => ⟨⟨160000, 240000, 192000⟩, rfl, by decide, by decide⟩⟩, by unfold MemoryOk; decide, ?_, asked_steps _⟩
  · cases h; unfold BoundsOk; decide
  · cases h; unfold BoundsOk; decide
  · unfold LibraryOk EntryOk; decide
theorem witness_StepKeepsKeyingTable :
    KeyingOk (asked (sing (oneRecord soundRec))).play ∧ ∃ t, step (asked (sing (oneRecord soundRec))) = .next t := by
  refine ⟨⟨by simp [asked, sing, oneRecord], fun i r h => ?_, fun i j a b ha hb _ _ _ _ => ?_⟩, asked_steps _⟩
  · obtain ⟨-, rfl⟩ := oneRecord_only h
    unfold RecordOk; decide
  · exact (oneRecord_only ha).1.trans (oneRecord_only hb).1.symm
theorem witness_StepKeepsStopRecords : StopsOk (asked up) ∧ ∃ t, step (asked up) = .next t := by
  refine ⟨by unfold StopsOk StopOk; decide, asked_steps _⟩
theorem witness_StepKeepsChainAndCounters :
    ChainOk (asked up).chain ∧ CountersOk (asked up).play ∧ ∃ t, step (asked up) = .next t := by
  refine ⟨⟨by decide, fun _ => by decide, by decide, by decide, fun b h => by cases h⟩, by unfold CountersOk; decide,
    asked_steps _⟩
theorem witness_StepKeepsOrgan : OrganOk (asked up).organ ∧ ∃ t, step (asked up) = .next t := by
  refine ⟨⟨by decide, fun v h => ?_, by decide, by decide, by decide, by decide, by decide, by decide⟩, asked_steps _⟩
  have : v = manual := by simpa [asked, up, Organ.described] using h
  subst this
  exact ⟨by decide, by decide, by decide, by decide, by decide, by decide, by decide, by decide, by decide,
    by decide, by decide, by decide, fun x h => by cases h; decide⟩
theorem witness_StepKeepsOrgan_boards :
    (∀ v, some v ∈ [some { manual with stops := [] }, none, none, none] → v.stops = []) ∧
    (∀ v' w', some v' ∈ [some manual, none, none, none] → w' ∈ v'.stops → w'.sense ≤ 0) ∧
    some manual ∈ [some manual, none, none, none] ∧ (⟨100, 101, 0⟩ : StopWiring) ∈ manual.stops := by
  refine ⟨fun v h => ?_, fun v w h hw => ?_, by decide, by decide⟩
  · have : v = { manual with stops := [] } := by simpa using h
    rw [this]
  · have : v = manual := by simpa using h
    subst this
    have : w = ⟨100, 101, 0⟩ := by simpa [manual] using hw
    rw [this]
theorem witness_StepKeepsListeningAndSwell :
    ListeningOk (asked up).listening ∧ SwellOk (asked up) ∧ ∃ t, step (asked up) = .next t := by
  refine ⟨⟨by decide, by decide, by unfold InputOk; decide, fun ch h => ?_⟩,
    ⟨by decide, by unfold RegistrationOk; decide, by decide, fun o h => ?_⟩, asked_steps _⟩
  · have : ch = Channel.quiet .powerUp := List.eq_of_mem_replicate (n := 4) h
    subst this
    exact ⟨by decide, by decide, by decide, by decide, by decide, by decide, by decide, by decide, by decide,
      by decide, by decide, (fun x h => by cases h), by decide, by decide, by decide, by decide⟩
  · have : o = SwellOutput.powerUp := List.eq_of_mem_replicate (n := 2) h
    subst this
    exact ⟨by decide, by decide, by decide, by decide, fun x h => by cases h⟩

/-! ### Witnesses: organ and chest chain -/

/-- A second manual of 12 keys, whose outputs are free in `up`. -/
def secondManual : DivisionArg :=
  { plainDivision 1 with firstOutput := 12, stops := [⟨102, 103, 1⟩], transport := some 401, articulation := some 0 }
theorem witness_DivisionPutTestsAndStores :
    Ready up ∧ 3 < 4 ∧ (Ready singing ∧ singing.play.reader.flow ≠ .idle) ∧
    (up.play.reader.flow = .idle ∧ (withChain (fun c => { c with phase := .surveying })).chain.phase = .surveying) ∧
    divisionPutTest up 3 secondManual = none ∧ divisionPutTest State.reset 0 secondManual = none :=
  ⟨ready_up, by decide, ⟨ready_singing, by decide⟩, by decide, by decide, by decide⟩
/-- The second manual with these stops. -/
def stopped (l : List StopWiring) : DivisionArg := { secondManual with stopCount := l.length, stops := l }
/-- R7: each of tests 4 to 9 fails first of a record: its number in the low half, the stop's index in the high half. -/
theorem witness_DivisionPutTestsAndStores_refused :
    Ready up ∧ up.play.reader.flow = .idle ∧ up.chain.phase ≠ .surveying ∧
    divisionPutTest up 3 (stopped [⟨102, 103, 1⟩, ⟨104, 105, 64⟩]) = some (.badArgument, 16 * 1 + 4) ∧
    divisionPutTest up 3 (stopped [⟨102, 103, 1⟩, ⟨512, 105, 2⟩]) = some (.badArgument, 16 * 1 + 5) ∧
    divisionPutTest up 3 (stopped [⟨102, 103, 1⟩, ⟨23, 105, 2⟩]) = some (.badArgument, 16 * 1 + 6) ∧
    divisionPutTest up 3 (stopped [⟨102, 103, 1⟩, ⟨104, 100, 2⟩]) = some (.badArgument, 16 * 1 + 7) ∧
    divisionPutTest up 3 (stopped [⟨102, 103, 1⟩, ⟨104, 105, 0⟩]) = some (.badArgument, 16 * 1 + 8) ∧
    divisionPutTest up 3 { secondManual with swell := 1 } = some (.badArgument, 9) :=
  ⟨ready_up, by decide, by decide, by decide, by decide, by decide, by decide, by decide, by decide⟩
/-- The premises of the clause on tests 4 to 9, of the record whose second stop has a magnet on a key output. -/
theorem witness_DivisionPutTestsAndStores_test6 :
    (24 ≤ (stopped []).lowest ∧ (stopped []).lowest ≤ 72 ∧ 12 ≤ (stopped []).keys ∧ (stopped []).keys ≤ 61 ∧
      (stopped []).firstOutput ≤ 511 ∧ (stopped []).swell ≤ 2 ∧ (stopped []).lowest + (stopped []).keys - 1 ≤ 127 ∧
      (stopped []).firstOutput + (stopped []).keys - 1 ≤ 511) ∧
    ¬ (storedDivision (stopped [⟨102, 103, 1⟩, ⟨23, 105, 2⟩])).outputs.Nodup ∧
    ((stopped []).firstOutput ≤ 23 ∧ 23 < (stopped []).firstOutput + (stopped []).keys) := by decide
theorem witness_DivisionClearAndOrganPut :
    Ready up ∧ Ready singing ∧ singing.play.reader.flow ≠ .idle ∧ up.organ.division 0 ≠ none ∧
    up.organ.division 3 = none := ⟨ready_up, ready_singing, by decide, by decide, by decide⟩
theorem witness_DivisionQueryReplies :
    Ready up ∧ 3 < 4 ∧ (3 ≤ 3 ∧ up.organ.division 3 = none) ∧ up.organ.division 0 = some manual ∧
    (∀ a, a = secondManual → (storedDivision a).stops.length = 1) :=
  ⟨ready_up, by decide, by decide, by decide, fun a h => by subst h; decide⟩
theorem witness_SurveyAndClearingShifts :
    Ready up ∧
    ((withChain (fun c => { c with shift := .ofClosing true })).inReset = false ∧
      (withChain (fun c => { c with shift := .ofClosing true })).chain.shift = .ofClosing true ∧
      (withChain (fun c => { c with shift := .ofClosing true })).chain.scan = none) ∧
    (State.reset.inReset = false ∧ State.reset.chain.shift = .ofReset false) ∧
    ((withChain (fun c => { c with phase := .surveying })).chain.phase = .surveying ∧ 1024 ≤ 1024) ∧
    up.organ.division 0 = some manual ∧ 12 ≤ manual.keys :=
  ⟨ready_up, by decide, by decide, by decide, by decide, by decide⟩
theorem witness_ScanStartsWithItsImage :
    up.inReset = false ∧ up.toEnv.scanDue = true ∧ 1023 < 1024 ∧ State.reset.chain.phase ≠ .running ∧
    up.chain.phase = .running := by decide

/-- A scan of the image with output 0 on is in progress. -/
def scanning (f : Chain → Chain) : State := withChain (fun c => f { c with scan := some 1, previous := 1 })
theorem witness_ScanCompletes :
    ((scanning id).inReset = false ∧ (scanning id).chain.scan = some 1 ∧ (scanning id).chain.phase = .running) ∧
    (1 &&& (scanning id).chain.mask = (scanning id).chain.previous ∧
      0 &&& (scanning id).chain.mask ≠ (scanning id).chain.previous) ∧
    ((scanning (fun c => { c with misses := 1 })).chain.misses ≤ 1 ∧
      2 ≤ (scanning (fun c => { c with misses := 2 })).chain.misses) ∧
    ((scanning (fun c => { c with phase := .fault, cause := some .integrity })).chain.phase = .fault ∧
      1 &&& (scanning (fun c => { c with phase := .fault, cause := some .integrity })).chain.mask ≠ 0) ∧
    ((scanning (fun c => { c with phase := .fault, cause := some .integrity, previous := 0, clean := 48 })).chain.previous
        = 0 ∧
      0 &&& (scanning (fun c => { c with phase := .fault, cause := some .integrity })).chain.mask = 0 ∧
      (scanning (fun c => { c with phase := .fault, cause := some .integrity, previous := 0, clean := 49 })).chain.clean
        = 49 ∧ (scanning (fun c => { c with phase := .fault, cause := some .integrity })).chain.previous ≠ 0) ∧
    up.chain.scan = none ∧
    (scanning (fun c => { c with phase := .fault, cause := some .noReturn, length := none })).chain.cause =
      some .noReturn := by decide +kernel

/-- The bit of the sense image for a stop, as R5 and R21 place it. -/
theorem senseBit_iff (e : Env) (read : SenseImage) (d i : Nat) : e.senseBit read d i = true ↔
    ∃ v w, e.organ.division d = some v ∧ v.stops[i]? = some w ∧ read.getLsbD w.sense = true := by
  simp [Env.senseBit, Option.any_eq_true, Option.bind_eq_some_iff]
  constructor
  · rintro ⟨w, ⟨v, h1, h2⟩, h3⟩; exact ⟨v, h1, w, h2, h3⟩
  · rintro ⟨v, h1, w, h2, h3⟩; exact ⟨w, ⟨v, h1, h2⟩, h3⟩
/-- A clean scan in RUNNING with sense bit 0 high meets every premise of its clause. -/
theorem witness_ScanCompletes_clean : ∃ (c : Chain) (p q : Play) (e : Env) (bit : Nat → Nat → Bool),
    (1#1024 &&& BitVec.ofNat 1024 (2 ^ (16 * (scanning id).chain.length.getD 64) - 1) = (scanning id).chain.previous) ∧
    c = { (scanning id).chain with sense := some 1, misses := 0 } ∧ p = (scanning id).play ∧
    1#64 &&& BitVec.ofNat 64 (2 ^ (16 * (scanning id).organ.senseBoards) - 1) = 1 ∧
    e = { (scanning id).toEnv with chain := c } ∧
    (∀ d i, bit d i = true ↔ ∃ v w, (scanning id).organ.division d = some v ∧ v.stops[i]? = some w ∧
      (1#64).getLsbD w.sense = true) ∧
    (¬ ∃ d i r, (scanning id).play.stop d i = some r ∧ r.cause = none ∧ r.sense = some (!bit d i) ∧
      (r.action = .idle ∨ r.action = .done)) ∧
    q = { p.mapStops (fun d i r => senseStop (bit d i) r) with latches := p.latches } ∧
    (scanning id).play.apply.state ≠ .inFlight := by
  refine ⟨_, _, _, _, (scanning id).toEnv.senseBit 1, by decide +kernel, rfl, rfl, by decide +kernel, rfl,
    senseBit_iff _ _, ?_, rfl, by decide⟩
  rintro ⟨d, i, r, h, hc, -⟩
  have : r = StopRecord.fresh := by
    rcases d with _ | _ | _ | _ | d
    · rcases i with _ | i
      · simpa [scanning, withChain, up, Play.stop, eq_comm] using h
      · simp [scanning, withChain, up, Play.stop] at h
    · simp [scanning, withChain, up, Play.stop] at h
    · simp [scanning, withChain, up, Play.stop] at h
    · simp [scanning, withChain, up, Play.stop] at h
    · simp [scanning, withChain, up, Play.stop] at h
  subst this; cases hc
/-- A stop drawn by hand, and an apply in flight that this scan completes or does not. -/
theorem witness_ScanCompletes_stops :
    (let r : StopRecord := { StopRecord.fresh with cause := none, sense := some false, action := .done }
     r.cause = none ∧ r.sense = some (!true) ∧ r.action = .done) ∧
    (scanning id).toEnv.senseBit 1 0 0 = true ∧ (scanning id).toEnv.senseBit 0 0 0 = false ∧
    (sing (fun p => { p with reader := { p.reader with flow := .preparing } })).play.reader.flow = .preparing ∧
    (applyDone up.toEnv (withPlay (fun p => { p with
        stops := [[{ StopRecord.fresh with action := .done, desired := some true }], [], [], []]
        apply := { p.apply with state := .inFlight, taken := 1 } })).play = true ∧
      applyDone up.toEnv (withPlay (fun p => { p with
        stops := [[{ StopRecord.fresh with action := .settling, desired := some true }], [], [], []]
        apply := { p.apply with state := .inFlight, taken := 1 } })).play = false) := by decide +kernel

/-- The third miss while a hymn is in hand. -/
def failing : State := { singing with chain := { singing.chain with scan := some 1, previous := 1, misses := 2 } }
theorem witness_ThirdMissIsAnIntegrityFault :
    failing.inReset = false ∧ failing.chain.scan = some 1 ∧ failing.chain.phase = .running ∧
    failing.chain.misses = 2 ∧ 0 &&& failing.chain.mask ≠ failing.chain.previous ∧ failing.play.atOnce = [] ∧
    StopsOk failing ∧ (∃ t, exec (.scanComplete 0 0) failing = .next t) ∧ failing.play.apply.state ≠ .inFlight ∧
    failing.play.reader.flow ≠ .idle ∧ 39 ≤ failing.play.counters.length :=
  ⟨by decide, rfl, by decide, by decide, by decide +kernel, by decide, by unfold StopsOk StopOk; decide, ⟨_, rfl⟩,
    by decide, by decide, by decide⟩

/-- The third miss with an apply in flight that is still pulsing its stop. -/
def failingApply : State := { failing with play := { failing.play with
  stops := [[{ StopRecord.fresh with
    action := .pulsing, desired := some true, drive := some .on, pulseEnd := some 5010, timeout := some 5300 }], [], [], []]
  apply := { failing.play.apply with state := .inFlight, taken := 1 } } }
theorem witness_ThirdMissIsAnIntegrityFault_apply :
    failingApply.inReset = false ∧ failingApply.chain.misses = 2 ∧ failingApply.play.atOnce = [] ∧ StopsOk failingApply ∧
    failingApply.play.apply.state = .inFlight ∧ failingApply.play.reader.flow ≠ .idle ∧
    (∃ bit : Nat → Nat → Bool, (∀ d i, bit d i = failingApply.toEnv.senseBit
        (0 &&& BitVec.ofNat 64 (2 ^ (16 * failingApply.organ.senseBoards) - 1)) d i) ∧
      ∃ d i r, failingApply.play.stop d i = some r ∧ (failingApply.toEnv.presentDivision d).isSome = true ∧
        r.desired.isSome = true ∧ r.action = .pulsing) := by
  refine ⟨by decide, by decide, by decide, by unfold StopsOk StopOk; decide, by decide, by decide, _, fun d i => rfl,
    0, 0, _, rfl, by decide, by decide, rfl⟩

/-! ### Witnesses: Hymn Library -/

/-- The part with these entries. -/
def withHymns (l : List (Option Entry)) : State := { up with library := hymns l }

/-- An entry of such a library is one that was given. -/
theorem hymns_entry {l : List (Option Entry)} {n : Nat} {en : Entry} (h : (hymns l).entry n = some en) :
    some en ∈ l := by
  simp only [Library.entry, hymns] at h
  cases hn : (l ++ List.replicate (48 - l.length) none)[n]? with
  | none => simp [hn] at h
  | some o =>
    simp only [hn, Option.join_some] at h
    subst h
    rcases List.mem_append.mp (List.mem_of_getElem? hn) with hm | hm
    · exact hm
    · cases List.eq_of_mem_replicate hm

/-- Every entry is READY or LOADING, and every block is owned. -/
def fullOfTunes : State := withHymns (List.replicate 48 (some readyEntry))
def fullOfBlocks : State := withHymns [some { readyEntry with blocks := List.range 256 }]

theorem witness_TuneOpenTakesAnEntry :
    Ready up ∧ (65535 ≤ 65535 ∧ 21 < 22 ∧ 19472 < 19473) ∧
    (1 ≤ 65534 ∧ 65534 ≤ 65534 ∧ 22 ≤ 22 ∧ 19472 ≤ 19472) ∧
    (∃ n en, up.library.entry n = some en ∧ en.tuneId = 1) ∧
    ((∀ n en, up.library.entry n = some en → en.tuneId ≠ 65534) ∧ up.library.openLoad.isSome = true) ∧
    ((∀ n en, fullOfTunes.library.entry n = some en → en.tuneId ≠ 65534) ∧ fullOfTunes.library.openLoad = none ∧
      fullOfTunes.library.freeEntry = none) ∧
    ((∀ n en, fullOfBlocks.library.entry n = some en → en.tuneId ≠ 65534) ∧ fullOfBlocks.library.openLoad = none ∧
      fullOfBlocks.library.freeEntry = some 1 ∧ fullOfBlocks.library.freeBlocks.length < (22 + 255) / 256) ∧
    ((∀ n en, (withHymns []).library.entry n = some en → en.tuneId ≠ 65534) ∧
      (withHymns []).library.openLoad = none ∧ (withHymns []).library.freeEntry = some 0 ∧
      (19472 + 255) / 256 ≤ (withHymns []).library.freeBlocks.length) := by
  refine ⟨ready_up, by decide, by decide, ⟨0, readyEntry, by decide, rfl⟩, ⟨fun n en h => ?_, by decide⟩,
    ⟨fun n en h => ?_, by decide, by decide⟩, ⟨fun n en h => ?_, by decide, by decide, ?_⟩,
    ⟨fun n en h => ?_, by decide, by decide, ?_⟩⟩
  · have := hymns_entry h
    simp only [List.mem_cons, Option.some.injEq, List.not_mem_nil, or_false] at this
    rcases this with rfl | rfl <;> decide
  · cases List.eq_of_mem_replicate (hymns_entry h)
    decide
  · have := hymns_entry h
    simp only [List.mem_cons, Option.some.injEq, List.not_mem_nil, or_false] at this
    subst this
    decide
  · have : fullOfBlocks.library.freeBlocks = [] := List.filter_eq_nil_iff.mpr (fun b hb => by
      simpa [fullOfBlocks, withHymns, hymns, Library.owned, Config.libraryBlocks] using hb)
    rw [this]; decide
  · exact absurd (hymns_entry h) (List.not_mem_nil)
  · have : (withHymns []).library.freeBlocks = List.range 256 := List.filter_eq_self.mpr (fun b _ => by
      simp [withHymns, hymns, Library.owned])
    rw [this, List.length_range]; decide
theorem witness_TuneDataStoresItsBytes :
    Ready up ∧ (withHymns []).library.loading = none ∧ up.library.loading = some (1, loadingEntry) ∧
    loadingEntry.length - loadingEntry.cursor < (List.replicate 23 (0 : Byte)).length ∧
    (List.replicate 22 (0 : Byte)).length ≤ loadingEntry.length - loadingEntry.cursor ∧
    Memory.wf [] = true ∧ readyEntry.blocks.Nodup ∧ 234 + image.length ≤ 256 * readyEntry.blocks.length :=
  ⟨ready_up, by decide, by decide, by decide, by decide, by decide, by decide, by decide⟩
theorem witness_ValidationEnds :
    (withHymns [some validatingEntry]).inReset = false ∧
    (withHymns [some validatingEntry]).library.validating = some (0, validatingEntry) ∧
    validate (withHymns [some validatingEntry]).library.mem validatingEntry = .ok (tuneDerived, none) ∧
    (withHymns [some { validatingEntry with tuneId := 9 }]).library.validating =
      some (0, { validatingEntry with tuneId := 9 }) ∧
    validate (withHymns [some { validatingEntry with tuneId := 9 }]).library.mem { validatingEntry with tuneId := 9 } =
      .error ⟨.idMismatch, none⟩ := by decide
/-- The image with one byte changed, as the entry that is VALIDATING reads it. -/
def changed (i : Nat) (b : Byte) : Memory := writeImage [] readyEntry 0 (image.set i b)
def reading (m : Memory) : Nat → Option Nat := imageByte m validatingEntry
def headerRead (m : Memory) : Header := headerOf ((readNumber (reading m) 14 0).getD 0)
theorem witness_ValidationEnds_order :
    (readNumber (reading stored) 14 0).isSome = true ∧
    firstFailing (headerTests 1 (headerRead (changed 1 2))) = some .idMismatch ∧
    (firstFailing (headerTests 1 (headerRead (changed 16 1))) = none ∧
      failureAt (reading (changed 16 1)) 1 0 = some ⟨.firstPosition, some 0⟩ ∧ 0 < (headerRead (changed 16 1)).eventCount) ∧
    (failureAt (reading (changed 17 0x21)) 1 0 = none ∧
      endFailure 22 (readEvents (reading (changed 17 0x21)) 1 14) = some ⟨.noAnchor, none⟩) ∧
    (failureAt (reading stored) 1 0 = none ∧ endFailure 22 (readEvents (reading stored) 1 14) = none) := by
  decide +kernel
theorem witness_ValidatedTunesAreInRange : validate stored validatingEntry = .ok (tuneDerived, none) := by decide
theorem witness_LibraryRequestsFreeAndRead :
    Ready up ∧ (∀ n en, up.library.entry n = some en → en.tuneId = 1 → en.state = .ready) ∧
    up.library.find (fun en => decide (en.state ≠ .ready) && decide (en.tuneId = 2)) = some 1 ∧
    up.library.ready 2 = none ∧ (singing.library.ready 1 = some 0 ∧ singing.play.inUse = some 0) ∧
    (up.library.ready 1 = some 0 ∧ up.play.inUse ≠ some 0) ∧ (47 < 48 ∧ ¬ 47 < 47) ∧
    (∀ n en, up.library.entry n = some en → en.tuneId ≠ 65535) ∧
    (up.library.entry 1 = some loadingEntry ∧
      ∀ m x, m < 1 → up.library.entry m = some x → x.tuneId ≠ loadingEntry.tuneId) := by
  have two : ∀ {n en}, up.library.entry n = some en → en = readyEntry ∨ en = loadingEntry := by
    intro n en h
    simpa using hymns_entry h
  refine ⟨ready_up, fun n en h => ?_, by decide, by decide, by decide, by decide, by decide, fun n en h => ?_,
    by decide, fun m x hm h => ?_⟩
  · rcases two h with rfl | rfl <;> decide
  · rcases two h with rfl | rfl <;> decide
  · rw [show m = 0 by omega] at h
    rw [show up.library.entry 0 = some readyEntry by decide, Option.some.injEq] at h
    subst h
    decide

/-! ### Witnesses: service list and registrations -/

theorem witness_ItemPutTestsAndInserts :
    itemFieldTest 0 plainItem = none ∧ itemFieldTest 0 { plainItem with amenFlag := 2 } = some 8 ∧ Ready up ∧
    up.items.length < 2 ∧
    (24 ≤ ({ up with items := List.replicate 24 hymn } : State).items.length ∧
      24 ≤ ({ up with items := List.replicate 24 hymn } : State).items.length) ∧
    (23 ≤ ({ up with items := List.replicate 23 hymn } : State).items.length ∧
      ({ up with items := List.replicate 23 hymn } : State).items.length < 24) ∧
    (singing.play.cursor = some 0 ∧ 0 ≤ singing.items.length) :=
  ⟨by decide, by decide, ready_up, by decide, by decide, by decide, by decide⟩
theorem witness_ItemReplaceQueryAndRemove :
    Ready up ∧ up.items.length ≤ 1 ∧ (singing.play.cursor = some 0 ∧ singing.play.reader.flow ≠ .idle) ∧
    up.items[0]? = some hymn ∧ Ready singing ∧
    (0 < singing.items.length ∧ singing.play.cursor = some 0 ∧ singing.play.reader.flow ≠ .idle) ∧
    (0 < up.items.length ∧ (up.play.cursor = some 0 → up.play.reader.flow = .idle)) ∧
    ((withPlay (fun p => { p with cursor := some 0 })).play.cursor = some 0 ∧
      (withPlay (fun p => { p with cursor := some 0 })).play.reader.flow = .idle) :=
  ⟨ready_up, by decide, by decide, by decide, ready_singing, by decide, ⟨by decide, fun _ => rfl⟩, by decide⟩
theorem witness_RegistrationsStoredAndRead :
    Ready up ∧ 31 < 32 ∧ regPutTest up 31 Registration.powerUp = none ∧
    regPutTest up 0 { Registration.powerUp with divisions := ⟨2, 0, 0⟩ :: List.replicate 3 ⟨0, 0, 0⟩ } =
      some (.badArgument, 3) ∧ regPutTest up 0 (routed [⟨0, 11⟩]) = some (.badArgument, 4) :=
  ⟨ready_up, by decide, by decide, by decide, by decide⟩

/-! ### Witnesses: Listening Channels -/

def micArg : MicArg := ⟨0, 35, 24, 4096, 120, 6, 4⟩
/-- Input A is PRESENT since tick 4995, its frame one pair short, with channel 0 enabled. -/
def hearing : State :=
  { up with listening := {
      inputs := [⟨true, some 5000, 63, 63, 63⟩, AudioInput.lost]
      channels := gallery :: List.replicate 3 (Channel.quiet .powerUp) } }
theorem witness_MicPutStores :
    Ready up ∧ 3 < 4 ∧ (3 ≤ 3 ∧ 1 < ({ micArg with enabled := 2 } : MicArg).enabled) ∧
    (3 ≤ 3 ∧ micArg.enabled ≤ 1) ∧
    up.play.matcher.behaviour = behaviourFor up.play.matcher.mode up.listening.liveCount ∧
    up.listening.channels[4]? = none ∧ up.listening.channels[3]? = some (Channel.quiet .powerUp) :=
  ⟨ready_up, by decide, by decide, by decide, by decide, by decide, by decide⟩
theorem witness_PairsFramesAndLoss :
    (0 < 16 ∧ 15 < 16) ∧ up.inReset = false ∧ up.listening.inputs[0]? = some AudioInput.lost ∧ 0 + 1 < 64 ∧
    up.play.matcher.behaviour = behaviourFor up.play.matcher.mode (up.listening.setInput 0 AudioInput.lost).liveCount ∧
    (hearing.listening.inputs[0]? = some ⟨true, some 5000, 63, 63, 63⟩ ∧ 64 ≤ 63 + 1 ∧
      hearing.listening.channels.length = 4 ∧ hearing.play.atOnce = []) ∧
    hearing.play.matcher.behaviour = behaviourFor hearing.play.matcher.mode hearing.listening.liveCount ∧
    (∀ c ch, hearing.listening.channels[c]? = some ch → c / 2 = 0 → ch.params.enabled = true →
      (workFrame ch 1640 hearing.clock).2 = .none) ∧
    (hearing.lossDue 1 = false ∧ hearing.lossDue 0 = true) ∧
    hearing.play.matcher.behaviour =
      behaviourFor hearing.play.matcher.mode (hearing.listening.loseInput 0).liveCount := by
  refine ⟨by decide, by decide, by decide, by decide, by decide, by decide, by decide, fun c ch h _ he => ?_,
    by decide, by decide⟩
  have : ch = gallery ∨ ch = Channel.quiet .powerUp := by
    rcases List.mem_cons.mp (List.mem_of_getElem? h) with rfl | hm
    · exact .inl rfl
    · exact .inr (List.eq_of_mem_replicate hm)
  rcases this with rfl | rfl
  · decide
  · cases he
/-- What the two channels of the input that is heard report when its frame completes. -/
def heardReport (c : Nat) : Report :=
  match hearing.listening.channels[c]? with
  | some ch => if ch.params.enabled = true then (workFrame ch 9800 hearing.clock).2 else .none
  | none => .none
theorem witness_PairsFramesAndLoss_reports :
    heardReport 0 = .onset 4963 9800 ∧ heardReport 1 = .none ∧
    (∀ c ch, hearing.listening.channels[c]? = some ch → c / 2 = 0 → heardReport c =
      if ch.params.enabled = true then (workFrame ch 9800 hearing.clock).2 else .none) :=
  ⟨by decide, by decide, fun c ch h _ => by simp only [heardReport, h]⟩
theorem witness_FrameWork :
    gallery.level ≤ 2097152 ∧ 2097152 ≤ 2097152 ∧ makesOnset gallery 9800 5000 = true ∧
    makesOnset gallery 1640 5000 = false := by decide

/-! ### Witnesses: Onset Matcher -/

/-- Two live channels, on both inputs. -/
def twoLive : Listening :=
  { inputs := List.replicate 2 ⟨true, some 5008, 0, 0, 0⟩
    channels := [gallery, Channel.quiet .powerUp, gallery, Channel.quiet .powerUp] }
/-- Under AGREEMENT, with one candidate held, whose expiry has come. -/
def held : Candidate := { time := 4940, strength := 9000, expiry := 5000 }
def agreeingMatcher (m : Matcher) : Matcher :=
  { m with behaviour := .agreement, candidates := [some held, none, none, none] }
theorem witness_MatchPutChangesBehaviour :
    Ready up ∧ 2 ≤ 2 ∧
    ((0 = 0 ∧ MatchMode.firstArrival = .firstArrival) ∧ up.play.matcher.behaviour = .firstArrival) ∧
    (up.play.matcher.behaviour = .firstArrival ∧
      2 ≤ ({ up with listening := twoLive } : State).listening.liveCount) ∧
    ((withMatcher agreeingMatcher).play.matcher.behaviour = .agreement ∧
      ¬ 2 ≤ (withMatcher agreeingMatcher).listening.liveCount ∧
      [(0, held)].Pairwise (fun x y => isAfter y.2.time x.2.time = true) ∧
      (∀ c k, (c, k) ∈ [(0, held)] ↔ c < 4 ∧ (withMatcher agreeingMatcher).play.matcher.candidate c = some k)) ∧
    Settled up ∧ (∀ k, up.play.matcher.candidate 0 = some k → hasCome up.clock k.expiry = false) ∧
    ((withMatcher agreeingMatcher).play.matcher.candidate 0 = some held ∧ hasCome up.clock held.expiry = true) := by
  refine ⟨ready_up, by decide, by decide, by decide, ⟨by decide, by decide, by simp, fun c k => ?_⟩, settled_up,
    fun k h => by (simp [up, State.reset, State.powerUp, Play.afterReset, Matcher.afterReset, Matcher.candidate,
      Config.channels] at h), by decide⟩
  constructor
  · intro h
    obtain ⟨rfl, rfl⟩ : c = 0 ∧ k = held := by simpa using h
    decide
  · rintro ⟨hc, h⟩
    rcases c with _ | _ | _ | _ | c
    · rw [show (withMatcher agreeingMatcher).play.matcher.candidate 0 = some held by decide] at h
      cases h
      simp
    · cases h
    · cases h
    · cases h
    · omega

/-- Both changes of the behaviour that deriving it makes. -/
theorem witness_MatchPutChangesBehaviour_derived :
    (({ withMatcher (fun m => { m with mode := .agreement }) with listening := twoLive } : State).play.matcher.mode =
        .agreement ∧ 2 ≤ twoLive.liveCount ∧
      (withMatcher (fun m => { m with mode := .agreement })).play.matcher.behaviour = .firstArrival) ∧
    (withMatcher agreeingMatcher).play.matcher.behaviour = .agreement ∧
    (withMatcher agreeingMatcher).play.matcher.mode = .firstArrival ∧ 4 ≤ twoLive.channels.length ∧
    twoLive.live 0 = true ∧ twoLive.live 1 = false := by decide

/-- The one anchor of the verse, and the same MATCHED at 4,000 on channel 1. -/
def anchor : Anchor := ⟨0, .pending, none, none⟩
def matchedAnchor : Anchor := ⟨0, .matched, some 4000, some 1⟩
def matchedVerse : State := sing (fun p => { p with matcher := { p.matcher with anchors := [matchedAnchor] } })
theorem only_anchor {a : Anchor} (h : a ∈ singing.play.matcher.anchors) : a = anchor := by
  simpa [singing, withPlay, anchor] using h
theorem only_matched {a : Anchor} (h : a ∈ matchedVerse.play.matcher.anchors) : a = matchedAnchor := by
  simpa [matchedVerse, sing] using h
theorem witness_ReportsUnderFirstArrival :
    singing.play.matcher.behaviour = .firstArrival ∧
    (up.play.matcher.state ≠ .opened ∨ up.play.tracker.tracking = false) ∧
    (singing.play.matcher.state = .opened ∧ singing.play.tracker.tracking = true ∧ Rising singing.play.matcher) ∧
    (matchedVerse.play.matcher.state = .opened ∧ Rising matchedVerse.play.matcher ∧
      NearestOf (DuplicateOf matchedVerse.play.matcher 4060) matchedAnchor) ∧
    (∀ a x, ¬ DuplicateOf singing.play.matcher 4250 a x) ∧
    (∀ a x, ¬ CandidateFor singing.play.matcher singing.play.tracker 4251 a x) ∧
    NearestOf (CandidateFor singing.play.matcher singing.play.tracker 4250) anchor := by
  refine ⟨by decide, by decide, ⟨by decide, by decide, by unfold Rising; decide⟩,
    ⟨by decide, by unfold Rising; decide, 60, ⟨by decide, by decide, 4000, by decide, by decide, by decide, by decide⟩,
      fun b y h => ?_⟩, fun a x h => ?_, fun a x h => ?_,
    250, ⟨by decide, by decide, by decide, by decide, by decide⟩, fun b y h => ?_⟩
  · obtain ⟨hm, -, u, hu, hy, -, -⟩ := h
    rw [only_matched hm] at hu ⊢
    cases hu
    subst hy
    decide
  · rw [only_anchor h.1] at h
    exact absurd h.2.1 (by decide)
  · rw [only_anchor h.1] at h
    obtain ⟨-, -, rfl, -, h5⟩ := h
    revert h5
    decide
  · have hb := only_anchor h.1
    subst hb
    obtain ⟨-, -, rfl, -, -⟩ := h
    decide
theorem witness_ReportsUnderAgreement :
    (agreeingMatcher singing.play.matcher).behaviour = .agreement ∧
    (agreeingMatcher singing.play.matcher).state = .opened ∧ singing.play.tracker.tracking = true ∧
    ((agreeingMatcher singing.play.matcher).candidate 2 = none ∧
      (agreeingMatcher singing.play.matcher).candidate 0 = some held) ∧
    (∀ d k, d < 4 → d ≠ 2 → (agreeingMatcher singing.play.matcher).candidate d = some k →
      within (agreeingMatcher singing.play.matcher).merge 5001 k.time = false) ∧
    (within (agreeingMatcher singing.play.matcher).merge 5000 held.time = true ∧
      ∀ d' k', d' < 4 → d' ≠ 2 → d' ≠ 0 → (agreeingMatcher singing.play.matcher).candidate d' ≠ some k') := by
  have only : ∀ d k, d < 4 → (agreeingMatcher singing.play.matcher).candidate d = some k → d = 0 ∧ k = held := by
    intro d k hd h
    rcases d with _ | _ | _ | _ | d
    · rw [show (agreeingMatcher singing.play.matcher).candidate 0 = some held by decide] at h
      cases h
      exact ⟨rfl, rfl⟩
    · cases h
    · cases h
    · cases h
    · omega
  refine ⟨by decide, by decide, by decide, by decide, fun d k hd _ h => ?_, by decide, fun d' k' hd _ hn h => ?_⟩
  · obtain ⟨-, rfl⟩ := only d k hd h
    decide
  · exact hn (only d' k' hd h).1
theorem witness_WindowCloseAndTrackPut :
    Rising singing.play.matcher ∧ EarliestPending singing.play.matcher anchor ∧ Awake up ∧
    (windowDue up.toEnv up.play = false ∧ Settled up) ∧ windowDue singing.toEnv singing.play = true ∧
    (singing.play.tracker.state = .following ∧ ¬ singing.play.tracker.params.missLimit ≤ 1) ∧ Ready singing ∧
    max 24 (min 80 240) = singing.play.tracker.params.window ∧
    max 24 (min 0 240) ≠ singing.play.tracker.params.window ∧ Settled singing := by
  refine ⟨by unfold Rising; decide, ⟨by decide, rfl, fun b h _ => ?_⟩, awake_up, ⟨by decide, settled_up⟩, by decide,
    by decide, ready_singing, by decide, by decide, settled_singing⟩
  rw [only_anchor h]
theorem witness_AgesRunOutAndTrackQuery :
    Awake up ∧ agesOut 5000 (some 4000) = false ∧ agesOut 5000 (some (5001 - 1048576#32)) = false ∧
    agesOut 5000 (some (5000 - 1048576#32)) = true ∧ up.listening.channels[3]? = some (Channel.quiet .powerUp) ∧
    matchedVerse.play.matcher.anchors[0]? = some matchedAnchor ∧
    (up.play.tracker.state = .idle ∧ singing.play.tracker.state ≠ .idle ∧ up.play.tracker.refTime = some 0) ∧
    (withTracker (fun tr => { tr with lastAnchor := some ⟨0, 5000 - 1048576#32⟩ })).play.tracker.lastAnchor =
      some ⟨0, 5000 - 1048576#32⟩ ∧ Ready up :=
  ⟨awake_up, by decide, by decide, by decide, by decide, by decide, by decide, by decide, ready_up⟩

/-! ### Witnesses: Tempo Tracker -/

/-- The following tracker of 6.8, holding a fermata at 960 that resumes at 1,200. -/
def theHold : Hold :=
  { entry := .fermata, position := 960, resume := 1200, span := 240, entryTime := 103000, minEnd := 103750
    maxEnd := 105250, cueHeld := false }
def holding : Tracker := { following with state := .holding, refPos := 960, refTime := some 103000, hold := some theHold }
theorem witness_TimeAndPosition :
    (following.refTime = some 101500 ∧ following.state ≠ .holding ∧ following.refPos ≤ 480 ∧ 479 < following.refPos) ∧
    (holding.state = .holding ∧ holding.hold = some theHold ∧ theHold.position < 961 ∧ 1199 < theHold.resume ∧
      theHold.resume ≤ 1200) ∧
    (960 ≤ theHold.position ∧ holding.refTime = some 103000 ∧ holding.refPos ≤ 960 ∧ 959 < holding.refPos) ∧
    (Tracker.afterReset .powerUp).state = .idle ∧ following.state = .following ∧ 0 < timeDiff 101500 101499 ∧
    (1048576 ≤ 1048576 ∧ 1 ≤ following.period) ∧
    (24 ≤ following.params.window ∧ following.params.window ≤ 240 ∧ 64000 ≤ following.period ∧
      following.period ≤ 512000) := by decide

/-- The play of a tracker alone. -/
def tracked (tr : Tracker) : Play := { up.play with tracker := tr }
theorem witness_CorrectionsAndRebase :
    (up.play.tracker.tracking = false ∧ (some 2 ≠ following.tag)) ∧
    (following.tracking = true ∧ following.bounds = some ⟨160000, 240000, 192000⟩) ∧
    ({ following with lastAnchor := none } : Tracker).lastAnchor = none ∧
    (((599 : Nat) : Int) - (480 : Nat) < 120 ∧ 1920 < ((2401 : Nat) : Int) - (480 : Nat)) ∧
    (120 ≤ ((600 : Nat) : Int) - (480 : Nat) ∧ ((2400 : Nat) : Int) - (480 : Nat) ≤ 1920) ∧
    (timeDiff 101600 101520 * 61440 + 480 / 2) / 480 < ((160000 / 2 : Nat) : Int) ∧
    (((160000 / 2 : Nat) : Int) ≤ (timeDiff 103060 101520 * 61440 + 480 / 2) / 480 ∧
      (timeDiff 103060 101520 * 61440 + 480 / 2) / 480 ≤ 2 * ((240000 : Nat) : Int)) ∧
    Awake singing ∧ Settled singing ∧
    (singing.play.tracker.refTime = some 4000 ∧ hasCome 5000 (4000 + 524288#32) = false) ∧
    ((sing (fun p => { p with tracker := { p.tracker with refTime := some (5000 - 524288#32) } })).play.tracker.tracking
        = true ∧
      hasCome 5000 (5000 - 524288#32 + 524288#32) = true ∧
      ((sing (fun p => { p with tracker := { p.tracker with refTime := some (5000 - 524288#32) } })).play.tracker.posAt
        5000).isSome = true) :=
  ⟨by decide, by decide, by decide, by decide, by decide, by decide, by decide, awake_singing, settled_singing,
    by decide, by decide⟩

/-- A record that a hold has made HELD. -/
def heldRec : KeyRecord := { soundRec with state := .held, offTime := none, holdKind := some .tracker }
/-- The verse with a pending fermata at 0, and in a hold at 0 that has come to its maximum end. -/
def pausing : State :=
  sing (fun p => { p with tracker := { p.tracker with fermata := some ⟨0, 240, 240⟩, fermataAt := some 4000 } })
def paused : State :=
  sing (fun p => oneRecord heldRec { p with tracker := { p.tracker with
    state := .holding, hold := some { theHold with position := 0, resume := 240, maxEnd := 5000 } } })
theorem witness_HoldsStartAndEnd :
    [some soundRec, some hostRec, some verseRec][0]? = some (some soundRec) ∧ hostRec.span = none ∧
    (soundRec.span = some ⟨0, 240, 1⟩ ∧ soundRec.state = .sounding ∧ 239 < 240 ∧ 240 ≤ 240) ∧
    (heldRec.state = .held ∧ verseRec.state = .scheduled) ∧ Awake up ∧ Settled up ∧
    (fermataDue up.toEnv up.play = false ∧ maximumEndDue up.toEnv up.play = false) ∧
    (pausing.play.tracker.tracking = true ∧ pausing.play.tracker.fermata = some ⟨0, 240, 240⟩ ∧
      pausing.play.tracker.fermataAt = some 4000 ∧ hasCome pausing.clock 4000 = true) ∧
    (paused.play.tracker.state = .holding ∧ (paused.play.tracker.hold.map (·.maxEnd)) = some 5000 ∧
      hasCome paused.clock 5000 = true) ∧
    (paused.play.record 0 = some heldRec ∧ 240 ≤ 240 ∧ 239 < 240) ∧
    (up.play.tracker.state ≠ .holding ∧ theHold.cueHeld = false ∧ 0 < timeDiff theHold.minEnd 103749 ∧
      timeDiff theHold.minEnd 103750 ≤ 0) :=
  ⟨by decide, by decide, by decide, by decide, awake_up, settled_up, by decide, by decide, by decide, by decide,
    by decide⟩

/-! ### Witnesses: Score Reader -/

def hymnHeader : Header := ⟨1, 1, [0, 0, 0, 0, 0, 0], 1, 192000, 160000, 240000⟩
theorem hymn_tune : (readTune stored readyEntry).map (·.header) = some hymnHeader := by decide
theorem witness_PlayTakesAnItemUp :
    (hymnHeader.least ≤ hymnHeader.nominal ∧ hymnHeader.nominal ≤ hymnHeader.greatest) ∧ Ready up ∧ 2 ≤ 2 ∧
    singing.play.reader.flow ≠ .idle ∧ (up.play.reader.flow = .idle ∧ State.reset.chain.phase ≠ .running) ∧
    (up.chain.phase = .running ∧ up.items.length ≤ 1) ∧ up.items[0]? = some hymn ∧
    (withHymns []).library.ready hymn.tuneId = none ∧
    (up.library.ready hymn.tuneId = some 0 ∧ up.library.entry 0 = some readyEntry ∧
      (readTune up.library.mem readyEntry).isSome = true) ∧ Settled up ∧ 1 ≤ hymn.verseRegs.length :=
  ⟨by decide, ready_up, by decide, by decide, by decide, by decide, by decide, by decide, by decide, settled_up,
    by decide⟩
/-- An override within the tune's bounds, and one whose bounds do not meet them (R51). -/
theorem witness_PlayTakesAnItemUp_override :
    (let v : TempoOverride := ⟨200000, some 180000, some 250000⟩
     max hymnHeader.least (v.least.getD hymnHeader.least) = 180000 ∧
      min hymnHeader.greatest (v.greatest.getD hymnHeader.greatest) = 240000 ∧ 180000 ≤ 240000) ∧
    (let v : TempoOverride := ⟨150000, none, some 150000⟩
     max hymnHeader.least (v.least.getD hymnHeader.least) = 160000 ∧
      min hymnHeader.greatest (v.greatest.getD hymnHeader.greatest) = 150000 ∧ 150000 < 160000) := by decide
/-- The last section of the verse is over: the cursor is past its events, and nothing sounds. -/
def versed (f : State → State) : State :=
  f (sing (fun p => { p with reader := { p.reader with cursor := some .pastEnd } }))
def versedWith (items : List Item) : State := versed (fun s => { s with items := items })
theorem witness_StopAndCancelEndTheItem_section :
    ((versed id).play.reader.flow = .playing ∧ (versed id).play.reader.cursor = some .pastEnd ∧
      (∀ i r, (versed id).play.record i ≠ some r) ∧ (versed id).play.reader.inHand = some 0 ∧
      (versed id).toEnv.playingItem (versed id).play = some hymn) ∧
    (up.play.reader.flow ≠ .playing ∧ up.play.reader.flow ≠ .ending ∧ singing.play.reader.cursor ≠ some .pastEnd ∧
      ∃ i r sp, (sing (oneRecord soundRec)).play.record i = some r ∧ r.span = some sp ∧
        sp.tag = (sing (oneRecord soundRec)).play.reader.tag) ∧
    [Section.verse 1, Section.verse 2][0 + 1]? = some (.verse 2) ∧ [Section.verse 1].length ≤ 0 + 1 ∧
    ((versed id).play.cursor = some 0 ∧ (versed id).items.length ≤ 0 + 1) ∧
    ((versedWith [hymn, hymn]).items[0 + 1]? = some hymn ∧ hymn.endAction = .halt) ∧
    ({ hymn with endAction := .waitCue } : Item).endAction ≠ .halt ∧ (withHymns []).library.ready hymn.tuneId = none ∧
    (up.library.ready hymn.tuneId = some 0 ∧ up.library.entry 0 = some readyEntry ∧
      (readTune up.library.mem readyEntry).isSome = true) ∧
    (∃ sec rest, (takenUpItem 1 0 hymn ⟨hymnHeader, [], tuneDerived⟩ up.play).reader.plan = some (sec :: rest)) ∧
    ({ hymn with endAction := .continue } : Item).endAction = .continue :=
  ⟨⟨by decide, by decide, fun i r => noRecord rfl, by decide, by decide⟩,
    ⟨by decide, by decide, by decide, 0, soundRec, ⟨0, 240, 1⟩, by decide, by decide, by decide⟩, by decide, by decide,
    by decide, by decide, by decide, by decide, by decide, ⟨.verse 1, [], by decide⟩, by decide⟩
theorem witness_StopAndCancelEndTheItem :
    (Ready up ∧ up.play.reader.flow = .idle) ∧
    (Ready singing ∧ Settled singing ∧ singing.play.reader.flow ≠ .idle) ∧ Settled up :=
  ⟨⟨ready_up, rfl⟩, ⟨ready_singing, settled_singing, by decide⟩, settled_up⟩

/-- The verse in its gap, whose end has come. -/
def gapped : State :=
  sing (fun p => { p with reader := { p.reader with flow := .gap, cursor := none, gapEnd := some 5000 } })
theorem witness_SectionStartAndHorizon :
    Awake up ∧ Settled up ∧ gapEndDue up.toEnv up.play = false ∧ gapEndDue gapped.toEnv gapped.play = true ∧
    (gapped.toEnv.playingItem gapped.play = some hymn ∧ (gapped.toEnv.playingTune gapped.play).isSome = true ∧
      gapped.play.reader.section = some (.verse 1) ∧ gapped.play.reader.inHand = some 0 ∧
      gapped.play.reader.tempo = some ⟨160000, 240000, 192000⟩) ∧
    (up.play.reader.flow ≠ .playing ∧ up.play.reader.flow ≠ .ending) ∧
    (singing.play.reader.flow = .playing ∧ singing.play.reader.wait = none ∧
      singing.play.reader.cursor = some (.event 0) ∧ ((singing.toEnv.events singing.play)[0]?).isSome = true) ∧
    (0 < 4 ∧ up.toEnv.presentDivision 0 = some manual) ∧ Ready singing :=
  ⟨awake_up, settled_up, by decide, by decide, by decide, by decide, by decide, by decide, ready_singing⟩
/-- A tune of two lines, of two events each, and its sections' tables (R134, R135). -/
def lineEvent (position : Nat) (lineEnd : Bool) : ScoreEvent :=
  { position := position, anchor := true, fermata := false, lineEnd := lineEnd, amen := false
    notes := [⟨false, 0, 60, 240⟩] }
def twoLines : Tune :=
  { header := hymnHeader
    events := [lineEvent 0 false, lineEvent 240 true, lineEvent 480 false, lineEvent 720 true,
      { lineEvent 1200 false with amen := true }]
    derived := { tuneDerived with verseLength := 960, amenPresent := true, amenStart := some 1200, amenEnd := some 1440 } }
theorem test_give_out_lines :
    sectionEvents { hymn with giveOut := .firstLine } twoLines .giveOut = [lineEvent 0 false, lineEvent 240 true] ∧
    sectionEvents { hymn with giveOut := .lastLine } twoLines .giveOut = [lineEvent 480 false, lineEvent 720 true] ∧
    sectionFirst { hymn with giveOut := .lastLine } twoLines .giveOut = 480 ∧
    sectionStop { hymn with giveOut := .firstLine } twoLines .giveOut = 480 := by decide
theorem witness_SectionStartAndHorizon_tables :
    twoLines.derived.amenStart = some 1200 ∧ twoLines.derived.amenEnd = some 1440 ∧
    1 < (twoLines.events.filter (fun ev => !ev.amen)).countP (·.lineEnd) ∧ hymn.giveOut = .none ∧
    ({ hymn with giveOutReg := some 3 } : Item).giveOutReg = some 3 ∧ hymn.verseRegs[1 - 1]? = some 0 ∧
    hymn.verseRegs.getLast? = some 0 ∧ Section.giveOut ∈ [Section.giveOut, .verse 1] ∧
    Section.giveOut ∉ [Section.verse 1] ∧ 2 ≤ 2 := by decide
theorem witness_SchedulingHandsNotes :
    (12 ≤ manual.keys ∧ (35 : Int) < manual.lowest ∧ (manual.lowest : Int) + manual.keys - 1 < 48 ∧
      (manual.lowest : Int) ≤ 36 ∧ 47 ≤ (manual.lowest : Int) + manual.keys - 1) ∧
    (up.toEnv.presentDivision 1 = none ∧ up.toEnv.presentDivision 0 = some manual) ∧ Awake up ∧ Settled up ∧
    schedulingDue up.toEnv up.play = false ∧ Awake singing ∧ schedulingDue singing.toEnv singing.play = true ∧
    (singing.toEnv.playingItem singing.play = some hymn ∧ (singing.toEnv.playingTune singing.play).isSome = true ∧
      singing.play.reader.section = some (.verse 1) ∧ singing.play.reader.cursor = some (.event 0) ∧
      ((singing.toEnv.events singing.play)[0]?).isSome = true) :=
  ⟨by decide, by decide, awake_up, settled_up, by decide, awake_singing, by decide, by decide⟩

/-- A press of a button that is counted at this tick. -/
def pressing (b : Button) (s : State) : State := { s with play := setCue b ⟨.closing, some 4980⟩ s.play }
theorem witness_CueInputsAndPresses :
    Awake up ∧ Settled up ∧
    (up.play.reader.cueGo.state = .opened ∧ State.reset.play.reader.cueGo = ⟨.opening, some 0⟩ ∧
      hasCome 20 (0 + 20#32) = true ∧ hasCome 19 (0 + 20#32) = false) ∧
    (((pressing .go up).play.reader.cue .go).state = .closing ∧
      ((pressing .go up).play.reader.cue .go).timer = some 4980 ∧ hasCome 5000 (4980 + 20#32) = true) ∧
    (up.play.reader.flow ≠ .waiting ∧ up.play.reader.flow ≠ .playing ∧ up.play.reader.flow ≠ .ending ∧
      up.play.reader.flow = .idle) ∧
    ((sing (fun p => { p with reader := { p.reader with flow := .waiting, inHand := none } })).play.reader.flow
        = .waiting ∧
      singing.toEnv.playingItem singing.play = some hymn ∧ singing.play.reader.plan = some [.verse 1]) ∧
    (paused.play.reader.flow = .playing ∧ paused.play.tracker.state = .holding ∧
      paused.play.tracker.hold.isSome = true) ∧
    (singing.play.tracker.tracking = true ∧ singing.play.tracker.inPlay = true ∧
      singing.toEnv.heldEvent singing.play = none ∧
      (sing (fun p => { p with reader := { p.reader with cursor := some .pastEnd } })).toEnv.heldEvent
        (sing (fun p => { p with reader := { p.reader with cursor := some .pastEnd } })).play =
          some ⟨0, 240, 240⟩) ∧ singing.play.reader.flow ≠ .idle :=
  ⟨awake_up, settled_up, by decide, by decide, by decide, by decide, by decide, by decide, by decide⟩

/-! ### Witnesses: Keying Table -/

/-- A note of the verse on key 36, from a position to another, of a voice. -/
def noteIn (voice start stop : Nat) (tie : Bool) : NoteIn :=
  { division := 0, key := 36, voice := voice, priority := 0, start := start, stop := stop, tie := tie
    origin := .score, tag := 1 }
theorem witness_NotesJoinOrMakeRecords :
    ((oneRecord verseRec up.play).record 0 = some verseRec ∧ verseRec.span = some ⟨0, 240, 1⟩ ∧
      up.organ.division 0 = some manual ∧
      (∀ j x sx, j ≠ 0 → (oneRecord verseRec up.play).record j = some x → x.span = some sx → sx.start < 0)) ∧
    ((noteIn 0 240 480 true).tie = true ∧ 240 = (noteIn 0 240 480 true).start) ∧
    ((noteIn 0 0 480 false).tie = false ∧ 0 = (noteIn 0 0 480 false).start) ∧
    (verseRec.voices &&& BitVec.twoPow 6 (noteIn 1 239 480 false).voice = 0 ∧ (noteIn 1 239 480 false).start < 240) ∧
    (verseRec.voices &&& BitVec.twoPow 6 (noteIn 0 1 480 false).voice ≠ 0 ∧
      isAfter (5500 : Tick) (5001 - BitVec.ofNat 32 manual.repeatGap) = true ∧
      isAfter (verseRec.onTime + BitVec.ofNat 32 up.organ.settings.minSpeak)
        (5001 - BitVec.ofNat 32 manual.repeatGap) = true) ∧
    (∀ j x, up.play.record j ≠ some x) ∧
    ((withPlay (fun p => { p with slots := List.replicate 128 (some verseRec) })).play.freeSlot = none ∧
      verseRec.state ≠ .sounding) ∧
    (up.play.freeSlot = some 0 ∧ hasCome singing.clock (singing.play.tracker.timeOf 480) = false) := by
  refine ⟨⟨by decide, by decide, by decide, fun j x sx hj h => absurd (oneRecord_only h).1 hj⟩, by decide, by decide,
    by decide, by decide, fun j x => noRecord rfl, ⟨?_, by decide⟩, by decide⟩
  exact List.findIdx?_eq_none_iff.mpr (fun o h => by rw [List.eq_of_mem_replicate h]; rfl)
/-- Slot 0 is free, and so is every other but those of the records given. -/
def recordsFromSlot1 (l : List KeyRecord) (p : Play) : Play :=
  { p with slots := none :: l.map some ++ List.replicate (127 - l.length) none }
/-- A repeat that is cut and one that needs no cut, before their on time and at it; and two current records of which
one is stolen, of the division with more of them. -/
theorem witness_NotesJoinOrMakeRecords_new :
    (let n := noteIn 0 480 720 false
     let on : Tick := singing.play.tracker.timeOf 480 - BitVec.ofNat 32 manual.transport
     let cut : Tick := on - BitVec.ofNat 32 manual.repeatGap
     n.tie = false ∧ 0 ≠ n.start ∧ verseRec.voices &&& BitVec.twoPow 6 n.voice ≠ 0 ∧
     (isAfter (cut + 1) cut = true ∧
      isAfter (verseRec.onTime + BitVec.ofNat 32 up.organ.settings.minSpeak) cut = false) ∧
     (∀ off, some cut = some off → isAfter off cut = false) ∧ hasCome singing.clock on = false ∧
     hasCome on on = true) ∧
    ((recordsFromSlot1 [soundRec] singing.play).freeSlot = some 0 ∧
      (recordsFromSlot1 [soundRec] singing.play).record 1 = some soundRec ∧ soundRec.state ≠ .scheduled ∧
      soundRec.successor ≠ some 0 ∧ soundRec.division = (noteIn 0 480 720 false).division ∧
      soundRec.key = (noteIn 0 480 720 false).key) ∧
    (hasCome singing.clock (singing.play.tracker.timeOf 0) = true ∧ singing.play.freeSlot = some 0) ∧
    ((withPlay (fun p => { p with slots := List.replicate 128 (some soundRec) })).play.record 0 = some soundRec ∧
      soundRec.state = .sounding ∧ soundRec.origin ≠ .planner ∧ soundRec.onTime = soundRec.onTime ∧ 0 < 1) := by
  refine ⟨⟨by decide, by decide, by decide, by decide, fun off h => ?_, by decide, by decide⟩, by decide, by decide, by decide⟩
  cases h; decide
/-- With every slot SOUNDING the same note, R165 steals the record of the lowest slot. -/
theorem witness_NotesJoinOrMakeRecords_chosen (x : KeyRecord) (j : Nat) (p : Play) (hj : j ≠ 0)
    (h : ({ p with slots := List.replicate 128 (some soundRec) } : Play).record j = some x) :
    soundRec.division = x.division ∧ soundRec.priority = x.priority ∧ soundRec.onTime = x.onTime ∧ 0 < j := by
  rw [Play.record_eq_some] at h
  cases List.eq_of_mem_replicate (List.mem_of_getElem? h)
  exact ⟨rfl, rfl, rfl, Nat.pos_of_ne_zero hj⟩
/-- Slot 0 holds the key's latest record and every other slot a PLANNER one, so that no slot is free and none can be
stolen: the repeat of `witness_NotesJoinOrMakeRecords_new` is dropped there. -/
def fullOfPlanner (p : Play) : Play := { p with slots := some verseRec :: List.replicate 127 (some hostRec) }
theorem witness_NotesJoinOrMakeRecords_dropped :
    (fullOfPlanner singing.play).freeSlot = none ∧ (fullOfPlanner singing.play).record 0 = some verseRec ∧
    (∀ j x, (fullOfPlanner singing.play).record j = some x →
      (x.state ≠ .sounding ∨ x.origin = .planner) ∧ (j ≠ 0 → x.span = none)) := by
  refine ⟨List.findIdx?_eq_none_iff.mpr (fun o h => ?_), by decide, fun j x h => ?_⟩
  · rcases List.mem_cons.mp h with h | h
    · rw [h]; rfl
    · rw [List.eq_of_mem_replicate h]; rfl
  · rw [Play.record_eq_some] at h
    rcases j with _ | j
    · cases h; exact ⟨.inl (by decide), fun h => absurd rfl h⟩
    · cases List.eq_of_mem_replicate (List.mem_of_getElem? (List.getElem?_cons_succ ▸ h))
      exact ⟨.inr rfl, fun _ => rfl⟩
/-- A play with two records, in slots 0 and 1. -/
def twoRecords (a b : KeyRecord) (p : Play) : Play := { p with slots := some a :: some b :: List.replicate 126 none }
def linkedRec : KeyRecord := { soundRec with successor := some 0 }
theorem twoRecords_only {a b x : KeyRecord} {p : Play} {j : Nat} (h : (twoRecords a b p).record j = some x) :
    j = 0 ∧ x = a ∨ j = 1 ∧ x = b := by
  rw [Play.record_eq_some] at h
  rcases j with _ | _ | j
  · exact .inl ⟨rfl, by simpa [twoRecords, eq_comm] using h⟩
  · exact .inr ⟨rfl, by simpa [twoRecords, eq_comm] using h⟩
  · simp only [twoRecords, List.getElem?_cons_succ] at h
    cases List.eq_of_mem_replicate (List.mem_of_getElem? h)

theorem witness_RecordsAreTimedAndKeyed :
    [some verseRec][0]? = some (some verseRec) ∧ (hostRec.span = none ∧ heldRec.state = .held) ∧
    (verseRec.span = some ⟨0, 240, 1⟩ ∧ verseRec.state ≠ .held ∧ up.organ.division verseRec.division = some manual) ∧
    Awake up ∧ Settled up ∧ onTimeDue up.toEnv up.play 0 = false ∧
    (verseRec.state = .scheduled ∧ hasCome up.clock verseRec.onTime = true ∧
      (sing (oneRecord verseRec)).play.record 0 = some verseRec) ∧
    ((∀ j x, j ≠ 0 → (sing (oneRecord verseRec)).play.record j ≠ some x) ∧
      ∀ j x, (sing (oneRecord verseRec)).play.record j = some x → x.successor ≠ some 0) ∧
    ((sing (twoRecords verseRec soundRec)).play.record 1 = some soundRec ∧ soundRec.state ≠ .scheduled ∧ soundRec.division = verseRec.division ∧
      soundRec.key = verseRec.key ∧
      ∀ k y, k ≠ 0 → k ≠ 1 →
        (sing (twoRecords verseRec soundRec)).play.record k ≠ some y) := by
  refine ⟨by decide, by decide, by decide, awake_up, settled_up, by decide, by decide,
    ⟨fun j x hj h => hj (oneRecord_only h).1, fun j x h => ?_⟩, by decide, by decide, by decide, by decide,
    fun k y h0 h1 h => ?_⟩
  · rw [(oneRecord_only h).2]; decide
  · rcases twoRecords_only h with ⟨rfl, -⟩ | ⟨rfl, -⟩
    · exact h0 rfl
    · exact h1 rfl
theorem witness_RecordsAreRetired :
    Awake up ∧ Settled up ∧ (offTimeDue up.toEnv up.play 0 = false ∧ deadlineDue up.toEnv up.play 0 = false) ∧
    ((sing (oneRecord soundRec)).play.record 0 = some soundRec ∧
      ∀ j x, (sing (oneRecord soundRec)).play.record j = some x → x.successor ≠ some 0) ∧
    (∃ sp, soundRec.span = some sp ∧ ∀ j x sx, j ≠ 0 → (sing (oneRecord soundRec)).play.record j = some x →
      x.span = some sx → sx.tag ≠ sp.tag) ∧ hostRec.span = none ∧
    (soundRec.state = .sounding ∧ soundRec.offTime = some 5000 ∧ hasCome up.clock 5000 = true) ∧
    (heldRec.state ≠ .scheduled ∧ heldRec.deadline = some 5000) ∧
    ((twoRecords soundRec linkedRec up.play).record 0 = some soundRec ∧
      (twoRecords soundRec linkedRec up.play).record 1 = some linkedRec ∧ linkedRec.successor = some 0 ∧
      ∀ k y, k ≠ 1 → (twoRecords soundRec linkedRec up.play).record k = some y → y.successor ≠ some 0) := by
  refine ⟨awake_up, settled_up, by decide, ⟨by decide, fun j x h => ?_⟩,
    ⟨_, rfl, fun j x sx hj h => absurd (oneRecord_only h).1 hj⟩, by decide, by decide, by decide, by decide, by decide,
    by decide, fun k y hk h => ?_⟩
  · rw [(oneRecord_only h).2]; decide
  · rcases twoRecords_only h with ⟨-, rfl⟩ | ⟨rfl, -⟩
    · decide
    · exact absurd rfl hk
theorem witness_HostKeyRequests :
    Ready up ∧ 3 < 4 ∧ (3 ≤ 3 ∧ up.toEnv.presentDivision 3 = none) ∧ up.toEnv.presentDivision 0 = some manual ∧
    (35 < manual.lowest ∧ manual.lowest + manual.keys - 1 < 48) ∧
    (manual.lowest ≤ 36 ∧ 47 ≤ manual.lowest + manual.keys - 1) ∧
    ((withPlay (oneRecord soundRec)).play.currentSlot 0 36 = some 0 ∧ up.play.currentSlot 0 36 = none) ∧
    ((withPlay (fun p => { p with slots := List.replicate 128 (some verseRec) })).play.freeSlot = none ∧
      up.play.freeSlot = some 0) ∧
    (127 < 128 ∧ 127 ≤ 127 ∧ up.play.record 127 = none) ∧
    ((withPlay (oneRecord soundRec)).play.record 0 = some soundRec ∧ soundRec.state ≠ .scheduled ∧
      verseRec.state = .scheduled) ∧
    ((withPlay (oneRecord verseRec)).play.currentSlot 0 36 = none ∧
      (withPlay (oneRecord verseRec)).play.record 0 = some verseRec ∧
      ∀ j x, j ≠ 0 → (withPlay (oneRecord verseRec)).play.record j ≠ some x) := by
  refine ⟨ready_up, by decide, by decide, by decide, by decide, by decide, by decide, ⟨?_, by decide⟩, by decide,
    by decide, ⟨by decide, by decide, fun j x hj h => hj (oneRecord_only h).1⟩⟩
  exact List.findIdx?_eq_none_iff.mpr (fun o h => by rw [List.eq_of_mem_replicate h]; rfl)

/-! ### Witnesses: Stop Action and Swell -/

/-- A stop SETTLING toward ON whose timeout has come, and one PULSING toward it. -/
def settling : StopRecord :=
  { StopRecord.fresh with action := .settling, desired := some true, timeout := some 5000 }
def pulsing : StopRecord :=
  { settling with action := .pulsing, drive := some .on, pulseEnd := some 5000 }
def withStop (r : StopRecord) : State := withPlay (fun p => { p with stops := [[r], [], [], []] })
/-- The same in an apply in flight that has taken it up. -/
def taking (r : StopRecord) : State :=
  withPlay (fun p => { p with stops := [[r], [], [], []], apply := { p.apply with state := .inFlight, taken := 1 } })
theorem witness_StopsApplyTakesStopsUp :
    (pulsing.action = .pulsing ∧ settling.action = .settling ∧ settling.desired = some true ∧
      settling.desired ≠ some false) ∧
    ({ StopRecord.fresh with cause := none, sense := some true } : StopRecord).sense = some true ∧
    StopRecord.fresh.cause ≠ none ∧ Ready up ∧ 31 < 32 ∧ (31 ≤ 31 ∧ State.reset.chain.phase ≠ .running) ∧
    up.chain.phase = .running ∧
    ((withPlay (fun p => { p with apply := { p.apply with state := .inFlight } })).play.apply.state = .inFlight ∧
      up.play.apply.state ≠ .inFlight) ∧ Settled up ∧
    (applyDone up.toEnv (taking settling).play = false ∧
      applyDone up.toEnv (taking { settling with action := .done, timeout := none }).play = true) ∧
    up.play.reader.flow ≠ .preparing ∧
    (sing (fun p => { p with reader := { p.reader with flow := .preparing } })).play.reader.flow = .preparing :=
  ⟨by decide, by decide, by decide, ready_up, by decide, by decide, by decide, by decide, settled_up, by decide,
    by decide, by decide⟩
theorem witness_PulsesTimeoutsAndSense :
    Awake up ∧ Settled up ∧ (pulseEndDue up.toEnv up.play 0 0 = false ∧ timeoutDue up.toEnv up.play 0 0 = false) ∧
    ((withStop pulsing).play.stop 0 0 = some pulsing ∧ pulsing.pulseEnd = some 5000 ∧ hasCome up.clock 5000 = true ∧
      pulsing.desired = some true ∧ pulsing.drive = some .on) ∧
    (({ pulsing with desired := some false } : StopRecord).drive ≠ some .off) ∧
    ((withStop settling).play.stop 0 0 = some settling ∧ settling.timeout = some 5000) ∧
    (applyDone up.toEnv (taking settling).play = false ∧
      applyDone up.toEnv (taking { settling with action := .fault, timeout := none }).play = true) ∧
    (singing.toEnv.playingItem singing.play = some hymn ∧ singing.play.reader.plan = some [.verse 1] ∧
      singing.play.reader.section = some (.verse 1)) ∧
    (settling.cause = some .unread ∧ settling.cause ≠ some .abandoned ∧
      ({ settling with cause := some .abandoned } : StopRecord).cause = some .abandoned) :=
  ⟨awake_up, settled_up, by decide, by decide, by decide, by decide, by decide, by decide, by decide⟩
theorem witness_StopsQueryAndSwell :
    Ready up ∧ up.swell.outputs[2]? = none ∧ up.swell.outputs[1]? = some SwellOutput.powerUp ∧ Awake up ∧
    (hasCome State.reset.clock State.reset.swell.nextUpdate = false ∧ hasCome up.clock up.swell.nextUpdate = true ∧
      hasCome 4999 up.swell.nextPeriod = false ∧ hasCome up.clock up.swell.nextPeriod = true) ∧
    (up.organ.swellDivision 1 = none ∧ singing.organ.swellDivision 0 = some 0 ∧
      singing.toEnv.inForce singing.play = some 0 ∧
      ({ singing with listening := twoLive } : State).listening.choirLevel = some 1600 ∧
      (singing.toEnv.registration 0).divisions[0]? = some ⟨1, 200, 900⟩) ∧
    (200 ≤ 900 ∧ 10000 ≤ 110000 ∧ 10000 ≤ 10000 ∧ 10000 < 110000 ∧ 110000 ≤ 110000) ∧
    (up.play.reader.flow = .idle ∧ singing.play.reader.flow ≠ .idle ∧ singing.play.reader.flow ≠ .waiting ∧
      singing.toEnv.playingItem singing.play = some hymn ∧ singing.play.reader.section = some (.verse 1)) ∧
    (twoLive.live 0 = true ∧ twoLive.channels[0]? = some gallery ∧ gallery.level ≤ gallery.level) ∧
    (SwellOutput.powerUp.driven = 0 ∧ ({ SwellOutput.powerUp with driven := 1023 } : SwellOutput).driven = 1023) :=
  ⟨ready_up, by decide, by decide, awake_up, by decide, by decide, by decide, by decide, by decide, by decide⟩

/-! ### One step each -/

/-- A field of the state after a command. -/
def after {α : Type} (c : Instr) (s : State) (f : State → α) : Option α :=
  match exec c s with
  | .next t => some (f t)
  | .fault _ => none
  | .refused _ => none

/-- 10.9: EVENTS READ while STATUS is being answered becomes REJECT BUSY, with code 0x40, reason 4. -/
theorem test_busy_link :
    after .eventsRead (withLink (fun l => { l with busy := true })) (·.link.waiting) =
      some (some { code := 0xFF#8, body := [0x40#8, 4#8, 0#8] }) := by decide
/-- R26: SURVEY during a reset's clearing shift: the survey starts after the shift. -/
theorem test_survey_in_reset_shift :
    after .survey State.reset (fun t => (t.chain.phase, t.chain.shift)) = some (.unsurveyed, .ofReset true) ∧
    after .resetClearingShiftComplete State.reset (·.chain.phase) = some .unsurveyed ∧
    after .resetClearingShiftComplete { State.reset with chain := { State.reset.chain with shift := .ofReset true } }
      (·.chain.phase) = some .surveying := by decide
/-- R132, R136, R183: PLAY NOW draws the stop of the verse's registration and waits for it, PREPARING. -/
theorem test_play_prepares :
    after (.play 0 0) up (fun t => (t.play.reader.flow, t.play.apply.state, t.play.latches.toNat)) =
      some (.preparing, .inFlight, 65) ∧
    after (.play 0 0) up (fun t => (t.play.stop 0 0).map (fun r => (r.action, r.drive, r.pulseEnd))) =
      some (some (.pulsing, some .on, some 5060)) := by decide
/-- R140, R155: the event at 0 is handed to key 36 + 24, folded into the manual as 36. -/
theorem test_scheduling_makes_a_record :
    after .schedulingExpiry singing (fun t => (t.play.record 0).map (fun r => (r.key, r.voices, r.priority))) =
      some (some (36, 1, 0)) ∧
    after .schedulingExpiry singing (fun t => t.play.counters.getD 7 0) = some 1 ∧
    after .schedulingExpiry singing (fun t => t.play.counters.getD 6 0) = some 1 := by decide
/-- R170: KEY SOUND of 5 ms is stored as 10, and sounds for the minimum speak time. -/
theorem test_key_sound :
    after (.keySound 0 47 5) up (fun t => (t.play.record 0).map (fun r => (r.key, r.offTime, r.deadline))) =
      some (some (47, some 5030, some 25000)) := by decide
/-- 1.6: after the third miss the chain is in FAULT with no miss counted, and the item has ended. -/
theorem test_third_miss :
    (failing.compare 0).chain.phase = .fault ∧ (failing.compare 0).chain.cause = some .integrity ∧
    (failing.compare 0).chain.misses = 0 ∧ (failing.compare 0).play.reader.flow = .idle ∧
    (failing.compare 1).chain.phase = .running := by decide +kernel
/-- R38: an image whose first position is not 0 fails there (2.4). -/
theorem test_first_position :
    validate (writeImage [] readyEntry 0 (image.set 16 1)) validatingEntry = .error ⟨.firstPosition, some 0⟩ := by
  decide
/-- R40: a last line without LINE END is given one: bit 5 of the event's byte 3 (R207). -/
theorem test_supplied_line_end :
    validate (writeImage [] readyEntry 0 (image.set 17 0x81)) validatingEntry = .ok (tuneDerived, some 14) ∧
    (setLineEnd (writeImage [] readyEntry 0 (image.set 17 0x81)) readyEntry 14).read 17 = 0xA1#8 := by decide

/-- R194: a character with its stop bit low is discarded; 0x7E as it stands on the line, data bits from bit 0. -/
theorem test_stop_bit :
    after (.partialFrameByte ⟨0x7E#8, false⟩) up (·.link.receiver.state) = some .hunt ∧
    after (.partialFrameByte ⟨0x7E#8, true⟩) up (·.link.receiver.state) = some .length ∧
    (⟨0x7E#8, true⟩ : Character).levels =
      [false, false, true, true, true, true, true, true, false, true] := by decide
/-- R195, R196: the check byte completes the frame of STATUS, which is answered with code 0x81; one that makes the
sum wrong is answered REJECT BAD_FRAME with detail 1. -/
theorem test_check_byte :
    after (.partialFrameByte (goodCharacter 0xFE#8))
      (withLink (fun l => { l with receiver := ⟨.check, 1, [0x01#8], some 5011⟩ }))
      (fun t => t.link.answer.map (·.code)) = some (some 0x81#8) ∧
    after (.partialFrameByte (goodCharacter 0xFF#8))
      (withLink (fun l => { l with receiver := ⟨.check, 1, [0x01#8], some 5011⟩ })) (·.link.answer) =
        some (some ⟨0xFF#8, [0x01#8, 1#8, 1#8]⟩) := by decide
/-- R3, R199: DIVISION PUT carries the stop count and the list's own count byte: 13 bytes and 3 for each stop. -/
theorem test_division_put_bytes :
    (putDivisionArg 0 (plainDivision 0)).length = 13 ∧ (putDivisionArg 0 (plainDivision 2)).length = 19 := by decide
/-- R10: with 16 stops the reply's body is 63 bytes, the most that a frame holds beside the code (R206). -/
theorem test_division_query_bytes :
    (putDivisionQuery { manual with stops := List.replicate 16 ⟨100, 101, 0⟩ } (some .present)).length = 63 := by decide
/-- R209: byte 16 of STATUS reads 255 with no last cue, and button and IGNORED bit with one. -/
theorem test_status_last_cue :
    (putStatus up)[16]? = some 255#8 ∧
    (putStatus (withReader (fun rd => { rd with lastCue := some ⟨.hold, 4000, false⟩ })))[16]? = some 0x82#8 := by decide
/-- R195, R197, R202: the check byte of an EVENTS ACK frame has latch RESET cleared. -/
theorem test_ack_by_check_byte :
    after (.partialFrameByte (goodCharacter 0xBA#8))
      (withLink (fun l => { l with receiver := ⟨.check, 4, [0x41#8, 0#8, 0#8, 1#8], some 5011⟩ }))
      (fun t => (up.play.isLatched .reset, t.play.isLatched .reset)) = some (true, false) := by decide
/-- R122, R123: a HOLD press enters a hold of entry CUE with cue-held set. -/
theorem test_cue_hold :
    after (.cueDebounceExpiry .hold) (pressing .hold
      (sing (fun p => { p with reader := { p.reader with cursor := some .pastEnd } })))
      (fun t => (t.play.tracker.state, t.play.tracker.hold.map (fun h => (h.entry, h.cueHeld, h.entryTime)))) =
      some (.holding, some (.cue, true, 5000)) := by decide
/-- R182, R186: a request of the Reader sets the reader waiting mark, of a new apply and of one it retargets, whose start
tick stays; the host's request leaves the mark as it was. -/
theorem test_reader_request :
    (let a := (requestApply up.toEnv 0 .reader (taking pulsing).play).apply
     (a.state, a.origin, a.startTick, a.readerWaiting)) =
      (.inFlight, some .reader, (taking pulsing).play.apply.startTick, true) ∧
    (let a := (requestApply up.toEnv 0 .reader up.play).apply
     (a.origin, a.startTick)) = (some .reader, some 5000) ∧
    (requestApply up.toEnv 0 .host (requestApply up.toEnv 0 .reader (taking pulsing).play)).apply.readerWaiting = true := by
  decide
/-- R71, R199: enabled is coded in its table's order, on 0 and off 1. -/
theorem test_enabled_code :
    after (.micPut 3 { micArg with enabled := 0 }) up (fun t => (t.listening.channels[3]?).map (·.params.enabled)) =
      some (some true) ∧
    after (.micPut 3 { micArg with enabled := 1 }) up (fun t => t.link.answer.map (fun a => a.body.take 2)) =
      some (some [3#8, 1#8]) := by decide
/-- R15, R185: the stops of a division that is cleared while an apply moves them do not let the apply complete. -/
theorem test_cleared_stops_stay_in_flight :
    after (.divisionClear 0) (taking settling) (fun t => (t.play.apply.state, applyDone t.toEnv t.play)) =
      some (.inFlight, false) := by decide

end Sys2Proof.Tests
end

section
/-! PROOF (O3). No operation of the part touches the queue of commands, and none but a reset touches the level of
RESETn: one frame lemma an operation, put together for the receiver's bytes, the requests and the events. -/

namespace Sys2Proof.Machine

/-- Two states with the same queue and the same level of RESETn. -/
def SameQueue (s t : State) : Prop := t.pending = s.pending ∧ t.inReset = s.inReset

@[refl] theorem SameQueue.refl (s : State) : SameQueue s s := ⟨rfl, rfl⟩

@[trans] theorem SameQueue.trans {s t u : State} (h : SameQueue s t) (h' : SameQueue t u) : SameQueue s u :=
  ⟨h'.1.trans h.1, h'.2.trans h.2⟩

/-! ### Answers -/

theorem sameQueue_answer (s : State) (a : Answer) : SameQueue s (s.answer a) := ⟨rfl, rfl⟩

theorem sameQueue_reply (s : State) (code : Nat) (body : List Byte) : SameQueue s (s.reply code body) :=
  sameQueue_answer s _

theorem sameQueue_reject (s : State) (code : Nat) (r : Reason) (d : Nat) : SameQueue s (s.reject code r d) :=
  sameQueue_answer s _

theorem sameQueue_act (s : State) (f : Env → Play → Play) : SameQueue s (s.act f) := ⟨rfl, rfl⟩

/-- A tested request leaves the queue when what carries it out does. -/
theorem sameQueue_tested {s : State} {carry : State → State} (code : Nat) (test : Option (Reason × Nat))
    (h : SameQueue s (carry s)) : SameQueue s (s.tested code test carry) := by
  cases test with
  | none => exact h
  | some x => exact sameQueue_reject s code x.1 x.2

theorem sameQueue_whileBusy (s : State) (a : Answer) (counts : Bool) : SameQueue s (s.whileBusy a counts) := by
  unfold State.whileBusy
  split
  · exact ⟨rfl, rfl⟩
  · cases counts <;> exact ⟨rfl, rfl⟩

theorem sameQueue_payAnswer (s : State) : SameQueue s s.payAnswer := by
  unfold State.payAnswer
  split <;> exact ⟨rfl, rfl⟩

/-! ### Describing and the survey -/

theorem sameQueue_replyClosing (s : State) (code : Nat) (body : List Byte) :
    SameQueue s (s.replyClosing code body) := by
  unfold State.replyClosing
  split
  · exact ⟨rfl, rfl⟩
  · exact sameQueue_reply s code body

theorem sameQueue_takeSurvey (s : State) : SameQueue s s.takeSurvey := by
  unfold State.takeSurvey
  split
  · exact ⟨rfl, rfl⟩
  · split <;> exact ⟨rfl, rfl⟩

/-! ### Listening and matching -/

theorem sameQueue_takeCandidates (held : List (Nat × Candidate)) (s : State) :
    SameQueue s (s.takeCandidates held) := by
  induction held generalizing s with
  | nil => exact SameQueue.refl s
  | cons x rest ih => exact (sameQueue_act s _).trans (ih _)

theorem sameQueue_deriveBehaviour (s : State) : SameQueue s s.deriveBehaviour := by
  unfold State.deriveBehaviour
  simp only
  split
  · exact SameQueue.refl s
  · exact SameQueue.trans ⟨rfl, rfl⟩ (sameQueue_takeCandidates _ _)

theorem sameQueue_setListening (s : State) (l : Listening) : SameQueue s (s.setListening l) :=
  SameQueue.trans ⟨rfl, rfl⟩ (sameQueue_deriveBehaviour _)

theorem sameQueue_putMatch (s : State) (mode : MatchMode) (merge : Nat) : SameQueue s (s.putMatch mode merge) :=
  SameQueue.trans ⟨rfl, rfl⟩ (sameQueue_deriveBehaviour _)

theorem sameQueue_completeFrame (s : State) (i low high : Nat) : SameQueue s (s.completeFrame i low high) := by
  unfold State.completeFrame
  simp only
  split <;> exact ⟨rfl, rfl⟩

theorem sameQueue_takePair (s : State) (i : Nat) (a : AudioInput) (low high : Sample) :
    SameQueue s (s.takePair i a low high) := by
  have latched : ∀ t : State,
      SameQueue t (if a.present then t else { t with play := t.play.latch .microphone }) := by
    intro t
    split <;> exact ⟨rfl, rfl⟩
  unfold State.takePair
  simp only
  split
  · exact ((sameQueue_setListening s _).trans (latched _)).trans (sameQueue_completeFrame _ _ _ _)
  · exact (sameQueue_setListening s _).trans (latched _)

/-! ### Playing and keying -/

theorem sameQueue_playItem (s : State) (index startMode : Nat) : SameQueue s (s.playItem index startMode) := by
  unfold State.playItem
  split <;> exact ⟨rfl, rfl⟩

theorem sameQueue_answerLookup (s : State) (slot : Option Nat) : SameQueue s (s.answerLookup slot) := by
  unfold State.answerLookup
  split <;> exact ⟨rfl, rfl⟩

theorem sameQueue_releaseSlot (s : State) (slot : Option Nat) : SameQueue s (s.releaseSlot slot) := by
  unfold State.releaseSlot
  split <;> exact ⟨rfl, rfl⟩

theorem sameQueue_carryKeyLookup (which : KeyRef) (s : State) : SameQueue s (carryKeyLookup which s) := by
  unfold carryKeyLookup
  split
  · split
    · exact sameQueue_reject s _ _ _
    · exact sameQueue_answerLookup s _
  · split
    · exact sameQueue_reject s _ _ _
    · exact sameQueue_answerLookup s _
  · exact sameQueue_reject s _ _ _

theorem sameQueue_carryKeyRelease (which : KeyRef) (s : State) : SameQueue s (carryKeyRelease which s) := by
  unfold carryKeyRelease
  split
  · split
    · exact sameQueue_reject s _ _ _
    · exact sameQueue_releaseSlot s _
  · split
    · exact sameQueue_reject s _ _ _
    · exact sameQueue_releaseSlot s _
  · exact sameQueue_reject s _ _ _

/-! ### Requests carried out -/

/-- Carrying a request out leaves the queue. -/
theorem sameQueue_carryOut (c : Instr) (s : State) : SameQueue s (carryOut c s) := by
  cases c with
  | eventsAck | eventsMask | eventsForce | tuneOpen | itemPut | itemReplace | itemRemove | regPut | keySound =>
    exact sameQueue_tested _ _ ⟨rfl, rfl⟩
  | divisionPut | divisionClear =>
    exact sameQueue_tested _ _ (SameQueue.trans ⟨rfl, rfl⟩ (sameQueue_replyClosing _ _ _))
  | survey => exact sameQueue_tested _ _ (sameQueue_takeSurvey s)
  | play => exact sameQueue_tested _ _ (sameQueue_playItem s _ _)
  | micPut => exact sameQueue_tested _ _ ((sameQueue_setListening s _).trans (sameQueue_reply _ _ _))
  | matchPut mode mergeWindow =>
    simp only [carryOut, carryMatchPut]
    split
    · exact sameQueue_reject s _ _ _
    · exact (sameQueue_putMatch s _ _).trans (sameQueue_reply _ _ _)
  | countersRead | organPut | divisionQuery | tuneData | tuneAbort | tuneRetire | tuneQuery | itemQuery | regQuery
  | micQuery | trackQuery | stopItem | keyList | keyHold | stopsApply | stopsQuery | swellPut =>
    simp only [carryOut, carryCountersRead, carryOrganPut, carryDivisionQuery, carryTuneData, carryTuneAbort,
      carryTuneRetire, carryTuneQuery, carryItemQuery, carryRegQuery, carryMicQuery, carryTrackQuery,
      carryStopItem, carryKeyList, carryKeyHold, carryStopsApply, carryStopsQuery, carrySwellPut]
    repeat' split
    all_goals exact ⟨rfl, rfl⟩
  | keyLookup which => exact sameQueue_carryKeyLookup which s
  | keyRelease which => exact sameQueue_carryKeyRelease which s
  | _ => exact ⟨rfl, rfl⟩

/-! ### The line -/

theorem sameQueue_hunt (s : State) : SameQueue s s.hunt := ⟨rfl, rfl⟩

theorem sameQueue_refuseFrame (s : State) (code : Nat) (r : Reason) (d : Nat) :
    SameQueue s (s.refuseFrame code r d) := by
  unfold State.refuseFrame
  simp only
  split
  · exact (sameQueue_hunt s).trans (sameQueue_whileBusy _ _ _)
  · split <;> exact ⟨rfl, rfl⟩

theorem sameQueue_acceptFrame {carry : State → State} (h : ∀ s, SameQueue s (carry s)) (s : State) (code : Nat) :
    SameQueue s (s.acceptFrame code carry) := by
  unfold State.acceptFrame
  split
  · exact (sameQueue_hunt s).trans (sameQueue_whileBusy _ _ _)
  · exact (sameQueue_hunt s).trans (h _)

theorem sameQueue_takeFrame (s : State) (f : RawFrame) : SameQueue s (s.takeFrame f) := by
  unfold State.takeFrame
  split
  · exact sameQueue_refuseFrame s _ _ _
  · exact sameQueue_acceptFrame (sameQueue_carryOut _) s _
  · exact SameQueue.refl s

/-- A byte of the line leaves the queue, also when it completes a frame. -/
theorem sameQueue_receive (s : State) (b : Byte) : SameQueue s (s.receive b) := by
  unfold State.receive
  split
  · split <;> exact ⟨rfl, rfl⟩
  · unfold State.lengthByte
    split
    · exact ⟨rfl, rfl⟩
    · exact sameQueue_refuseFrame s _ _ _
  · exact ⟨rfl, rfl⟩
  · exact sameQueue_takeFrame s _

theorem sameQueue_receiveAll (bs : List Byte) (s : State) : SameQueue s (State.receiveAll bs s) :=
  State.receiveAll_induct (P := SameQueue s) (fun b t h => h.trans (sameQueue_receive t b)) bs (SameQueue.refl s)

theorem sameQueue_arrive {complete : State → State} (h : ∀ s, SameQueue s (complete s)) (s : State) (f : RawFrame) :
    SameQueue s (s.arrive f complete) := by
  unfold State.arrive
  split
  · exact h s
  · exact sameQueue_receiveAll _ s

theorem sameQueue_request {carry : State → State} (h : ∀ s, SameQueue s (carry s)) (s : State) (c : Instr) :
    SameQueue s (s.request c carry) := by
  unfold State.request
  split
  · exact SameQueue.refl s
  · split
    · exact SameQueue.refl s
    · exact sameQueue_arrive (fun t => sameQueue_acceptFrame h t _) s _

/-- The end of an answer, with RESETn high: also the reset that follows RESET's reply leaves RESETn high. -/
theorem sameQueue_sent {s : State} (h : s.inReset = false) (rateHigh : Bool) : SameQueue s (s.sent rateHigh) := by
  unfold State.sent
  repeat' split
  · exact SameQueue.refl s
  · exact ⟨rfl, h.symm⟩
  · exact ⟨rfl, rfl⟩
  · exact ⟨rfl, rfl⟩

/-! ### The chest chain -/

theorem sameQueue_closingDone (s : State) : SameQueue s s.closingDone := by
  unfold State.closingDone
  split
  · exact SameQueue.trans ⟨rfl, rfl⟩ (sameQueue_payAnswer _)
  · exact SameQueue.refl s

theorem sameQueue_resetShiftDone (s : State) : SameQueue s s.resetShiftDone := by
  unfold State.resetShiftDone
  split
  · exact SameQueue.trans ⟨rfl, rfl⟩ (sameQueue_payAnswer _)
  · exact SameQueue.refl s

theorem sameQueue_compareRunning (s : State) (ret : ChestImage) : SameQueue s (s.compareRunning ret) := by
  unfold State.compareRunning
  simp only
  repeat' split
  all_goals exact ⟨rfl, rfl⟩

theorem sameQueue_compareFault (s : State) (ret : ChestImage) : SameQueue s (s.compareFault ret) := by
  unfold State.compareFault
  repeat' split
  all_goals exact ⟨rfl, rfl⟩

theorem sameQueue_compare (s : State) (ret : ChestImage) : SameQueue s (s.compare ret) := by
  unfold State.compare
  split
  · exact sameQueue_compareRunning s ret
  · exact sameQueue_compareFault s ret
  · exact SameQueue.refl s

theorem sameQueue_deliverSense (s : State) (bits : SenseImage) : SameQueue s (s.deliverSense bits) := ⟨rfl, rfl⟩

theorem sameQueue_latchImage (s : State) (image : ChestImage) : SameQueue s (s.latchImage image) := ⟨rfl, rfl⟩

/-- A completed scan leaves the queue, in either order of its comparison and its sense read (log 19). -/
theorem sameQueue_completeScan (s : State) (image ret : ChestImage) (bits : SenseImage) :
    SameQueue s (s.completeScan image ret bits) := by
  have compareFirst : SameQueue s (((s.compare ret).deliverSense bits).latchImage image) :=
    ((sameQueue_compare s ret).trans (sameQueue_deliverSense _ bits)).trans (sameQueue_latchImage _ image)
  unfold State.completeScan
  split
  · split
    · exact ((sameQueue_deliverSense s bits).trans (sameQueue_compare _ ret)).trans (sameQueue_latchImage _ image)
    · exact compareFirst
  · exact compareFirst

/-! ### Commands -/

/-- A command answers with a next state that has the same queue and the same level of RESETn. -/
def LeavesQueue (c : Instr) (s : State) : Prop := ∃ t, exec c s = .next t ∧ SameQueue s t

/-- R197: a request's command is the arrival of its frame, which its block carries out. -/
theorem exec_request {c : Instr} {code : Nat} {body : List Byte} (h : writeRequest c = some (code, body)) (s : State) :
    exec c s = .next (s.request c (carryOut c)) := by
  cases c <;> cases h <;> rfl

/-- A request leaves the queue. -/
theorem leavesQueue_request {c : Instr} {code : Nat} {body : List Byte} (h : writeRequest c = some (code, body))
    (s : State) : LeavesQueue c s :=
  ⟨_, exec_request h s, sameQueue_request (sameQueue_carryOut c) s c⟩

/-- An event leaves the queue when its effect, taken with RESETn high, does. -/
theorem leavesQueue_event {c : Instr} {s : State} {f : State → State} (hc : exec c s = .next (s.event f))
    (h : s.inReset = false → SameQueue s (f s)) : LeavesQueue c s := by
  refine ⟨_, hc, ?_⟩
  unfold State.event
  split
  · exact SameQueue.refl s
  · exact h (by simpa using ‹¬ s.inReset = true›)

/-- An event that only settles what playing changes leaves the queue. -/
theorem leavesQueue_act {c : Instr} {s : State} {f : Env → Play → Play}
    (hc : exec c s = .next (s.event (fun s => s.act f))) : LeavesQueue c s :=
  leavesQueue_event hc (fun _ => sameQueue_act s f)

/-- An event with one guard leaves the queue when what it does under the guard does. -/
theorem leavesQueue_guarded {c : Instr} {s : State} {b : State → Prop} [DecidablePred b] {f : State → State}
    (hc : exec c s = .next (s.event (fun s => if b s then f s else s))) (h : SameQueue s (f s)) :
    LeavesQueue c s := by
  refine leavesQueue_event hc (fun _ => ?_)
  show SameQueue s (if b s then f s else s)
  split
  · exact h
  · exact SameQueue.refl s

/-- Every command but the two resets and the end of one leaves the queue and the level of RESETn. -/
theorem leavesQueue_of_not_reset {c : Instr} (hpower : c ≠ .powerReset) (hpin : c ≠ .pinReset)
    (hend : ∀ r, c ≠ .resetEnd r) (s : State) : LeavesQueue c s := by
  cases c with
  | powerReset => exact absurd rfl hpower
  | pinReset => exact absurd rfl hpin
  | resetEnd r => exact absurd rfl (hend r)
  | partialFrameByte c =>
    refine leavesQueue_event rfl (fun _ => ?_)
    unfold State.receiveCharacter
    split
    · exact sameQueue_receive s _
    · exact SameQueue.refl s
  | frameGapExpiry => exact leavesQueue_guarded rfl ⟨rfl, rfl⟩
  | frameRejected f =>
    refine leavesQueue_event rfl (fun _ => ?_)
    split
    · exact sameQueue_arrive (fun t => sameQueue_refuseFrame t _ _ _) s f
    · exact SameQueue.refl s
  | frameWhileBusy f => exact leavesQueue_guarded rfl (sameQueue_arrive (fun t => sameQueue_takeFrame t f) s f)
  | answerSent r => exact leavesQueue_event rfl (fun h => sameQueue_sent h r)
  | closingSequenceComplete => exact leavesQueue_event rfl (fun _ => sameQueue_closingDone s)
  | resetClearingShiftComplete => exact leavesQueue_event rfl (fun _ => sameQueue_resetShiftDone s)
  | surveyReturn | surveyNoReturn | scanStart => exact leavesQueue_guarded rfl ⟨rfl, rfl⟩
  | scanComplete returned sense =>
    refine leavesQueue_event rfl (fun _ => ?_)
    split
    · exact sameQueue_completeScan s _ _ _
    · exact SameQueue.refl s
  | validationSuccess | validationFailure =>
    refine leavesQueue_event rfl (fun _ => ?_)
    split
    · exact SameQueue.refl s
    · split <;> exact ⟨rfl, rfl⟩
  | samplePairComplete input low high =>
    refine leavesQueue_event rfl (fun _ => ?_)
    split
    · exact sameQueue_takePair s _ _ _ _
    · exact SameQueue.refl s
  | inputLost => exact leavesQueue_guarded rfl (SameQueue.trans ⟨rfl, rfl⟩ (sameQueue_setListening _ _))
  | lastOnsetExpiry | lastReleaseExpiry | lastMatchedAnchorExpiry | referenceTimeExpiry | lastCueExpiry
  | applyTickExpiry | swellUpdate | swellPeriodStart => exact leavesQueue_guarded rfl ⟨rfl, rfl⟩
  | matchedTimeExpiry | cueContactClosed | cueContactOpened => exact leavesQueue_event rfl (fun _ => ⟨rfl, rfl⟩)
  | candidateExpiry | windowCloseExpiry | rebase | fermataExpiry | maximumEndExpiry | gapEnd | schedulingExpiry
  | cueDebounceExpiry | onTimeExpiry | offTimeExpiry | deadlineExpiry | pulseEndExpiry | stopTimeoutExpiry =>
    exact leavesQueue_act rfl
  | _ => exact leavesQueue_request rfl s

/-- Settles O3: a command that is no reset leaves the queue and the level of RESETn, and the resets, which change that
level, leave the queue. -/
theorem everyCommandCompletes : Obligations.EveryCommandCompletes := by
  intro c s
  by_cases hpower : c = .powerReset
  · subst hpower
    exact ⟨_, rfl, rfl, .inr (.inl rfl)⟩
  by_cases hpin : c = .pinReset
  · subst hpin
    exact ⟨_, rfl, rfl, .inr (.inr (.inl rfl))⟩
  by_cases hend : ∃ r, c = .resetEnd r
  · obtain ⟨r, rfl⟩ := hend
    refine ⟨_, rfl, ?_, .inr (.inr (.inr ⟨r, rfl⟩))⟩
    split <;> rfl
  · obtain ⟨t, ht, hpending, hreset⟩ := leavesQueue_of_not_reset hpower hpin (fun r h => hend ⟨r, h⟩) s
    exact ⟨t, ht, hpending, .inl hreset⟩

end Sys2Proof.Machine
end

section
/-! PROOF (O45). Each stored time that ages out (R1): the expiry that comes 2^20 ticks after it takes it out, and
one that comes earlier does nothing. TRACK QUERY answers and changes nothing. -/

namespace Sys2Proof.Machine

/-! ### Ages (R1) -/

/-- A stored time's expiry is 2^20 ticks after it. -/
theorem agesOut_some (now t : Tick) : agesOut now (some t) = hasCome now (t + 1048576#32) := rfl

theorem agesOut_some_iff {now t : Tick} : agesOut now (some t) = true ↔ timeDiff (t + 1048576#32) now ≤ 0 := by
  rw [agesOut_some, hasCome_iff]

/-- A time that may be absent has not aged out when the present one has not. -/
theorem agesOut_eq_false {now : Tick} {o : Option Tick} (h : ∀ t, o = some t → agesOut now (some t) = false) :
    agesOut now o = false := by
  cases o with
  | none => rfl
  | some t => exact h t rfl

/-- A change at a place that a list has writes the changed element there. -/
theorem modify_of_getElem? {α : Type} {l : List α} {i : Nat} {a : α} (h : l[i]? = some a) (f : α → α) :
    l.modify i f = l.set i (f a) := by
  rw [List.modify_eq_set_getElem?, h]
  rfl

/-! ### A guarded event -/

section
variable {c : Instr} {s : State} {due : State → Bool} {f : State → State}

/-- An event whose guard holds has its effect. -/
theorem exec_guarded_due (hc : exec c s = .next (s.event (fun s => if due s then f s else s))) (hs : Awake s)
    (hd : due s = true) : exec c s = .next (f s) := by
  rw [hc, State.event_awake hs, if_pos hd]

/-- An event whose guard fails has none (log 2). -/
theorem exec_guarded_not_due (hc : exec c s = .next (s.event (fun s => if due s then f s else s))) (hs : Awake s)
    (hd : due s = false) : exec c s = .next s := by
  rw [hc, State.event_awake hs, if_neg (by simp [hd])]

end

/-! ### The record of a channel (R76) -/

theorem exec_lastOnsetExpiry_not_due {c : Nat} {s : State} (hs : Awake s)
    (h : ∀ ch o, s.listening.channels[c]? = some ch → ch.lastOnset = some o →
      agesOut s.clock (some o.time) = false) : exec (.lastOnsetExpiry c) s = .next s := by
  refine exec_guarded_not_due (due := (State.lastOnsetDue · c)) rfl hs (agesOut_eq_false fun t ht => ?_)
  obtain ⟨ch, hch, ht⟩ := Option.bind_eq_some_iff.mp ht
  obtain ⟨o, ho, rfl⟩ := Option.map_eq_some_iff.mp ht
  exact h ch o hch ho

theorem exec_lastOnsetExpiry_due {c : Nat} {s : State} {ch : Channel} {o : OnsetRecord} (hs : Awake s)
    (hch : s.listening.channels[c]? = some ch) (ho : ch.lastOnset = some o)
    (h : agesOut s.clock (some o.time) = true) :
    exec (.lastOnsetExpiry c) s = .next { s with listening := { s.listening with
      channels := s.listening.channels.set c { ch with lastOnset := none } } } := by
  have hd : s.lastOnsetDue c = true := by simpa [State.lastOnsetDue, hch, ho] using h
  rw [exec_guarded_due (due := (State.lastOnsetDue · c)) rfl hs hd, State.setChannel, modify_of_getElem? hch]

theorem exec_lastReleaseExpiry_not_due {c : Nat} {s : State} (hs : Awake s)
    (h : ∀ ch t, s.listening.channels[c]? = some ch → ch.lastRelease = some t →
      agesOut s.clock (some t) = false) : exec (.lastReleaseExpiry c) s = .next s := by
  refine exec_guarded_not_due (due := (State.lastReleaseDue · c)) rfl hs (agesOut_eq_false fun t ht => ?_)
  obtain ⟨ch, hch, ht⟩ := Option.bind_eq_some_iff.mp ht
  exact h ch t hch ht

theorem exec_lastReleaseExpiry_due {c : Nat} {s : State} {ch : Channel} {t : Tick} (hs : Awake s)
    (hch : s.listening.channels[c]? = some ch) (ht : ch.lastRelease = some t)
    (h : agesOut s.clock (some t) = true) :
    exec (.lastReleaseExpiry c) s = .next { s with listening := { s.listening with
      channels := s.listening.channels.set c { ch with lastRelease := none } } } := by
  have hd : s.lastReleaseDue c = true := by simpa [State.lastReleaseDue, hch, ht] using h
  rw [exec_guarded_due (due := (State.lastReleaseDue · c)) rfl hs hd, State.setChannel, modify_of_getElem? hch]

/-! ### A matched anchor's time (R88) -/

/-- The event reads and writes what playing changes alone. -/
theorem exec_matchedTimeExpiry {i : Nat} {s : State} (hs : Awake s) :
    exec (.matchedTimeExpiry i) s = .next { s with play := forgetMatchedTime s.toEnv i s.play } :=
  congrArg _ (State.event_awake hs _)

theorem exec_matchedTimeExpiry_not_due {i : Nat} {s : State} (hs : Awake s)
    (h : ∀ a t, s.play.matcher.anchors[i]? = some a → a.time = some t → agesOut s.clock (some t) = false) :
    exec (.matchedTimeExpiry i) s = .next s := by
  have hd : matchedTimeDue s.toEnv s.play i = false := agesOut_eq_false fun t ht => by
    obtain ⟨a, ha, ht⟩ := Option.bind_eq_some_iff.mp ht
    exact h a t ha ht
  rw [exec_matchedTimeExpiry hs, forgetMatchedTime, if_neg (by simp [hd])]

theorem exec_matchedTimeExpiry_due {i : Nat} {s : State} {a : Anchor} {t : Tick} (hs : Awake s)
    (ha : s.play.matcher.anchors[i]? = some a) (ht : a.time = some t) (h : agesOut s.clock (some t) = true) :
    exec (.matchedTimeExpiry i) s = .next { s with play := { s.play with
      matcher := { s.play.matcher with anchors := s.play.matcher.anchors.set i { a with time := none } } } } := by
  have hd : matchedTimeDue s.toEnv s.play i = true := by simpa [matchedTimeDue, ha, ht] using h
  rw [exec_matchedTimeExpiry hs, forgetMatchedTime, if_pos hd, modify_of_getElem? ha]
  rfl

/-! ### The tracker's, the reader's and the apply record's times (R107, R131, R181) -/

section
variable {s : State}

theorem exec_lastMatchedAnchorExpiry_not_due (hs : Awake s)
    (h : ∀ m, s.play.tracker.lastAnchor = some m → agesOut s.clock (some m.time) = false) :
    exec .lastMatchedAnchorExpiry s = .next s := by
  refine exec_guarded_not_due (due := fun s => lastAnchorDue s.toEnv s.play) rfl hs (agesOut_eq_false fun t ht => ?_)
  obtain ⟨m, hm, rfl⟩ := Option.map_eq_some_iff.mp ht
  exact h m hm

theorem exec_lastMatchedAnchorExpiry_due {m : MatchPoint} (hs : Awake s) (hm : s.play.tracker.lastAnchor = some m)
    (h : agesOut s.clock (some m.time) = true) :
    exec .lastMatchedAnchorExpiry s = .next { s with play := { s.play with
      tracker := { s.play.tracker with lastAnchor := none } } } := by
  have hd : lastAnchorDue s.toEnv s.play = true := by simpa [lastAnchorDue, hm] using h
  rw [exec_guarded_due (due := fun s => lastAnchorDue s.toEnv s.play) rfl hs hd, State.setTracker]

/-- R keeps its age while the tracker is not IDLE: the expiry then does nothing. -/
theorem exec_referenceTimeExpiry_not_due (hs : Awake s)
    (h : ∀ t, s.play.tracker.refTime = some t → s.play.tracker.state ≠ .idle ∨ agesOut s.clock (some t) = false) :
    exec .referenceTimeExpiry s = .next s := by
  refine exec_guarded_not_due (due := fun s => referenceDue s.toEnv s.play) rfl hs ?_
  by_cases hi : s.play.tracker.state = .idle
  · have hr := agesOut_eq_false fun t ht => (h t ht).resolve_left (not_not_intro hi)
    simp [referenceDue, hr]
  · simp [referenceDue, hi]

theorem exec_referenceTimeExpiry_due {t : Tick} (hs : Awake s) (ht : s.play.tracker.refTime = some t)
    (hi : s.play.tracker.state = .idle) (h : agesOut s.clock (some t) = true) :
    exec .referenceTimeExpiry s = .next { s with play := { s.play with
      tracker := { s.play.tracker with refTime := none } } } := by
  have hd : referenceDue s.toEnv s.play = true := by simpa [referenceDue, hi, ht] using h
  rw [exec_guarded_due (due := fun s => referenceDue s.toEnv s.play) rfl hs hd, State.setTracker]

theorem exec_lastCueExpiry_not_due (hs : Awake s)
    (h : ∀ c, s.play.reader.lastCue = some c → agesOut s.clock (some c.tick) = false) :
    exec .lastCueExpiry s = .next s := by
  refine exec_guarded_not_due (due := fun s => lastCueDue s.toEnv s.play) rfl hs (agesOut_eq_false fun t ht => ?_)
  obtain ⟨c, hc, rfl⟩ := Option.map_eq_some_iff.mp ht
  exact h c hc

theorem exec_lastCueExpiry_due {c : LastCue} (hs : Awake s) (hc : s.play.reader.lastCue = some c)
    (h : agesOut s.clock (some c.tick) = true) :
    exec .lastCueExpiry s = .next { s with play := { s.play with
      reader := { s.play.reader with lastCue := none } } } := by
  have hd : lastCueDue s.toEnv s.play = true := by simpa [lastCueDue, hc] using h
  rw [exec_guarded_due (due := fun s => lastCueDue s.toEnv s.play) rfl hs hd]

theorem exec_applyTickExpiry_not_due {which : ApplyTick} (hs : Awake s)
    (h : ∀ t, s.play.apply.tick which = some t → agesOut s.clock (some t) = false) :
    exec (.applyTickExpiry which) s = .next s :=
  exec_guarded_not_due (due := fun s => applyTickDue s.toEnv s.play which) rfl hs (agesOut_eq_false h)

theorem exec_applyTickExpiry_due {which : ApplyTick} {t : Tick} (hs : Awake s)
    (ht : s.play.apply.tick which = some t) (h : agesOut s.clock (some t) = true) :
    exec (.applyTickExpiry which) s = .next { s with play := { s.play with
      apply := s.play.apply.clearTick which } } := by
  have hd : applyTickDue s.toEnv s.play which = true := by simpa [applyTickDue, ht] using h
  rw [exec_guarded_due (due := fun s => applyTickDue s.toEnv s.play which) rfl hs hd]

/-! ### TRACK QUERY (R105, R128) -/

theorem exec_trackQuery (hs : Ready s) (part : Nat) (start : Option Nat) :
    exec (.trackQuery part start) s = .next { s with
      link := if part = 0 then replyLink s 0x24 (putTracker s.play.tracker s.clock)
        else if part = 1 then replyLink s 0x24 (putHoldPart s.play.tracker s.clock)
        else if part = 2 then replyLink s 0x24 (putMatcher s.play.matcher s.listening.liveCount)
        else if part = 3 then replyLink s 0x24 (putAnchors s.play.matcher.anchors (start.getD 0))
        else rejectLink s 0x24 .badArgument 0 } := by
  have taken : exec (.trackQuery part start) s = .next (carryTrackQuery part start s.hunt) :=
    congrArg _ (State.request_ready hs rfl _)
  rw [taken]
  match part with
  | 0 | 1 | 2 | 3 => rfl
  | n + 4 => rfl

end

/-- Settles O45: each stored time by the two lemmas of its expiry, and TRACK QUERY part by part. -/
theorem agesRunOutAndTrackQuery : Obligations.AgesRunOutAndTrackQuery :=
  ⟨fun _ _ => agesOut_some_iff,
    fun _ _ hs => ⟨exec_lastOnsetExpiry_not_due hs, fun _ _ => exec_lastOnsetExpiry_due hs,
      exec_lastReleaseExpiry_not_due hs, fun _ _ => exec_lastReleaseExpiry_due hs⟩,
    fun _ _ hs => ⟨exec_matchedTimeExpiry_not_due hs, fun _ _ => exec_matchedTimeExpiry_due hs⟩,
    fun _ hs => ⟨exec_lastMatchedAnchorExpiry_not_due hs, fun _ => exec_lastMatchedAnchorExpiry_due hs,
      exec_referenceTimeExpiry_not_due hs, fun _ => exec_referenceTimeExpiry_due hs,
      exec_lastCueExpiry_not_due hs, fun _ => exec_lastCueExpiry_due hs,
      exec_applyTickExpiry_not_due (which := .start) hs, fun _ => exec_applyTickExpiry_due (which := .start) hs,
      exec_applyTickExpiry_not_due (which := .stop) hs, fun _ => exec_applyTickExpiry_due (which := .stop) hs⟩,
    fun part start _ hs => exec_trackQuery hs part start⟩

end Sys2Proof.Machine
end

section
/-! PROOF (O14). Every invariant holds of what a reset leaves: block by block, and so of the machine right after
a POWER reset. -/

namespace Sys2Proof.Machine

/-! ### What every reset leaves of the blocks that play (R130, R153, R177, R189, R205) -/

/-- R177: a table of free slots holds no record. -/
theorem record_of_free {p : Play} (h : p.slots = List.replicate Config.keyingSlots none) (i : Nat) :
    p.record i = none := by
  simp only [Play.record, h, List.getElem?_replicate]
  split <;> rfl

theorem keyingOk_of_free {p : Play} (h : p.slots = List.replicate Config.keyingSlots none) : KeyingOk p := by
  refine ⟨by rw [h]; exact List.length_replicate, fun i r hr => ?_, fun i j a b ha => ?_⟩
  · rw [record_of_free h] at hr
    cases hr
  · rw [record_of_free h] at ha
    cases ha

theorem countersOk_of_cleared {p : Play} (h : p.counters = List.replicate Config.counters 0) : CountersOk p := by
  refine ⟨by rw [h]; exact List.length_replicate, fun n hn => ?_⟩
  rw [h] at hn
  rw [List.eq_of_mem_replicate hn]
  exact Nat.zero_le _

/-- A reset leaves the period 0, with neither a tempo nor bounds. -/
theorem periodOk_of_afterReset {p : Play} {params : TrackParams} {horizon : Nat}
    (ht : p.tracker = .afterReset params) (hr : p.reader = .afterReset horizon) : PeriodOk p := by
  refine ⟨.inl (by rw [ht]; rfl), ?_, ?_, ?_, ?_⟩ <;> simp [ht, hr, Tracker.afterReset, Reader.afterReset]

/-- A reset leaves the reader IDLE, with nothing in hand. -/
theorem readerOk_afterReset {horizon : Nat} (hlow : 100 ≤ horizon) (hhigh : horizon ≤ 1000) :
    ReaderOk (Reader.afterReset horizon) := by
  refine ⟨?_, ?_, ?_, hlow, hhigh, Nat.zero_le _⟩ <;> simp [Reader.afterReset]

theorem stopOk_fresh : StopOk StopRecord.fresh := by simp [StopOk, StopRecord.fresh]

/-- A place's new stop records are those of its stops. -/
theorem length_forPlace (v : Option Division) :
    (StopRecord.forPlace v).length = (v.map (·.stops.length)).getD 0 := by
  cases v <;> simp [StopRecord.forPlace]

theorem mem_forPlace {v : Option Division} {r : StopRecord} (h : r ∈ StopRecord.forPlace v) : r = .fresh := by
  cases v with
  | none => simp [StopRecord.forPlace] at h
  | some d => exact List.eq_of_mem_replicate h

/-- R178: stop records formed anew are those of the described divisions. -/
theorem stopsOk_of_forPlace {s : State} (h : s.play.stops = s.organ.divisions.map StopRecord.forPlace) :
    StopsOk s := by
  constructor
  · rw [h, List.map_map]
    exact List.map_congr_left fun v _ => length_forPlace v
  · intro l hl r hr
    rw [h] at hl
    obtain ⟨v, -, rfl⟩ := List.mem_map.mp hl
    rw [mem_forPlace hr]
    exact stopOk_fresh

/-! ### What every reset leaves of the chain (R26) -/

theorem chainOk_afterReset (latched : ChestImage) : ChainOk (Chain.afterReset latched) := by
  refine ⟨?_, ?_, Nat.zero_le _, Nat.zero_le _, ?_⟩ <;> simp [Chain.afterReset]

/-! ### What a POWER reset leaves of the tables (R12, R49, R67, R71, R112, R193) -/

theorem trackerOk_powerUp : TrackerOk (Tracker.afterReset .powerUp) := by
  simp [TrackerOk, Tracker.afterReset, TrackParams.powerUp]

theorem entry_powerUp (n : Nat) : Library.powerUp.entry n = none := by
  simp only [Library.entry, Library.powerUp, List.getElem?_replicate]
  split <;> rfl

theorem libraryOk_powerUp : LibraryOk Library.powerUp := by
  simp [LibraryOk, Library.powerUp, Library.owned, Config.libraryEntries]

theorem headersOk_powerUp : HeadersOk Library.powerUp := by
  intro n en tune h
  rw [entry_powerUp] at h
  cases h

theorem organOk_powerUp : OrganOk Organ.powerUp := by
  simp [OrganOk, Organ.described, Organ.powerUp, Settings.powerUp, senseBoardsFor, Config.divisionPlaces]

theorem inputOk_lost : InputOk AudioInput.lost := by simp [InputOk, AudioInput.lost]

theorem channelOk_powerUp : ChannelOk (Channel.quiet .powerUp) := by
  simp [ChannelOk, Channel.quiet, MicParams.powerUp]

theorem listeningOk_powerUp : ListeningOk (.afterReset (List.replicate Config.channels .powerUp)) := by
  refine ⟨rfl, rfl, ?_, ?_⟩
  · simpa [Listening.afterReset] using inputOk_lost
  · simpa [Listening.afterReset, Config.channels] using channelOk_powerUp

theorem registrationOk_powerUp : RegistrationOk Registration.powerUp := by
  simp [RegistrationOk, Registration.powerUp]

theorem outputOk_powerUp : OutputOk SwellOutput.powerUp := by simp [OutputOk, SwellOutput.powerUp]

theorem swellOk_reset : SwellOk State.reset := by
  refine ⟨rfl, fun r hr => ?_, rfl, fun o ho => ?_⟩
  · rw [List.eq_of_mem_replicate hr]
    exact registrationOk_powerUp
  · rw [List.eq_of_mem_replicate (n := 2) ho]
    exact outputOk_powerUp

/-! ### The service list and the tune in use (R47, R52) -/

/-- The service list is empty, with no cursor, and the reader is IDLE. -/
theorem serviceOk_reset : ServiceOk State.reset :=
  ⟨Nat.zero_le _, nofun, nofun, fun h => absurd rfl h⟩

theorem inUseOk_reset : InUseOk State.reset := ⟨nofun, fun h => absurd rfl h⟩

/-- Settles O14: the invariants of the tables at power-up and of the blocks a reset leaves idle. -/
theorem invariantsHoldAtReset : Obligations.InvariantsHoldAtReset :=
  ⟨rfl, libraryOk_powerUp, serviceOk_reset, inUseOk_reset, readerOk_afterReset (by decide) (by decide),
    trackerOk_powerUp, keyingOk_of_free rfl, stopsOk_of_forPlace rfl, countersOk_of_cleared rfl,
    chainOk_afterReset 0, organOk_powerUp, listeningOk_powerUp, swellOk_reset, headersOk_powerUp,
    periodOk_of_afterReset rfl rfl, rfl, rfl, rfl, rfl⟩

end Sys2Proof.Machine
end

section
/-! PROOF (O2). The step on an empty queue, and which expiries it queues (log 1): a guard of each family in terms
of the state's fields, the commands that each part of the list holds, and the two put together. -/

namespace Sys2Proof.Machine

/-! ### When an expiry has come -/

theorem dueAt_iff {now : Tick} {o : Option Tick} : dueAt now o = true ↔ ∃ t, o = some t ∧ hasCome now t = true := by
  cases o <;> simp

theorem dueAfter_iff {now : Tick} {span : Nat} {o : Option Tick} :
    dueAfter now span o = true ↔ ∃ t, o = some t ∧ hasCome now (t + ticks span) = true := by
  cases o <;> simp

theorem agesOut_iff {now : Tick} {o : Option Tick} :
    agesOut now o = true ↔ ∃ t, o = some t ∧ hasCome now (t + 1048576#32) = true :=
  dueAfter_iff

/-- The age of a time within a record that may be absent. -/
theorem agesOut_bind_iff {α : Type} {now : Tick} {o : Option α} {time : α → Option Tick} :
    agesOut now (o.bind time) = true ↔
      ∃ a t, o = some a ∧ time a = some t ∧ hasCome now (t + 1048576#32) = true := by
  cases o <;> simp [agesOut_iff]

/-! ### Each guard in the state's fields -/

section
variable (s : State)

theorem gapDue_iff : s.gapDue = true ↔ ExpiryCome s .frameGapExpiry := by
  simp [State.gapDue, ExpiryCome, dueAt_iff]

theorem lossDue_iff (i : Nat) : i < 2 ∧ s.lossDue i = true ↔ ExpiryCome s (.inputLost i) := by
  simp [State.lossDue, ExpiryCome, dueAt_iff, Option.any_eq_true]

theorem lastOnsetDue_iff (c : Nat) : c < 4 ∧ s.lastOnsetDue c = true ↔ ExpiryCome s (.lastOnsetExpiry c) := by
  simp [State.lastOnsetDue, ExpiryCome, agesOut_bind_iff]

theorem lastReleaseDue_iff (c : Nat) : c < 4 ∧ s.lastReleaseDue c = true ↔ ExpiryCome s (.lastReleaseExpiry c) := by
  simp [State.lastReleaseDue, ExpiryCome, agesOut_bind_iff]

theorem candidateDue_iff (c : Nat) :
    c < 4 ∧ candidateDue s.toEnv s.play c = true ↔ ExpiryCome s (.candidateExpiry c) := by
  simp [candidateDue, ExpiryCome, dueAt_iff]

theorem windowDue_iff : windowDue s.toEnv s.play = true ↔ ExpiryCome s .windowCloseExpiry := dueAt_iff

theorem matchedTimeDue_iff (i : Nat) : matchedTimeDue s.toEnv s.play i = true ↔ ExpiryCome s (.matchedTimeExpiry i) := by
  simp [matchedTimeDue, ExpiryCome, agesOut_bind_iff]

theorem rebaseDue_iff : rebaseDue s.toEnv s.play = true ↔ ExpiryCome s .rebase := by
  simp [rebaseDue, ExpiryCome, dueAfter_iff, ticks, Config.rebaseSpan]

theorem fermataDue_iff : fermataDue s.toEnv s.play = true ↔ ExpiryCome s .fermataExpiry := by
  simp [fermataDue, ExpiryCome, dueAt_iff, Option.isSome_iff_ne_none, and_assoc]

theorem maximumEndDue_iff : maximumEndDue s.toEnv s.play = true ↔ ExpiryCome s .maximumEndExpiry := by
  simp [maximumEndDue, ExpiryCome, dueAt_iff]

theorem lastAnchorDue_iff : lastAnchorDue s.toEnv s.play = true ↔ ExpiryCome s .lastMatchedAnchorExpiry := by
  simp [lastAnchorDue, ExpiryCome, agesOut_iff]

theorem referenceDue_iff : referenceDue s.toEnv s.play = true ↔ ExpiryCome s .referenceTimeExpiry := by
  simp [referenceDue, ExpiryCome, agesOut_iff]

theorem gapEndDue_iff : gapEndDue s.toEnv s.play = true ↔ ExpiryCome s .gapEnd := by
  simp [gapEndDue, ExpiryCome, dueAt_iff]

theorem schedulingDue_iff : schedulingDue s.toEnv s.play = true ↔ ExpiryCome s .schedulingExpiry := dueAt_iff

theorem cueDue_iff (b : Button) : (s.play.reader.cue b).due s.clock = true ↔ ExpiryCome s (.cueDebounceExpiry b) := by
  simp [CueInput.due, ExpiryCome, dueAfter_iff, ticks]

theorem lastCueDue_iff : lastCueDue s.toEnv s.play = true ↔ ExpiryCome s .lastCueExpiry := by
  simp [lastCueDue, ExpiryCome, agesOut_iff]

theorem onTimeDue_iff (i : Nat) : i < 128 ∧ onTimeDue s.toEnv s.play i = true ↔ ExpiryCome s (.onTimeExpiry i) := by
  simp [onTimeDue, ExpiryCome, Option.any_eq_true]

theorem offTimeDue_iff (i : Nat) : i < 128 ∧ offTimeDue s.toEnv s.play i = true ↔ ExpiryCome s (.offTimeExpiry i) := by
  simp [offTimeDue, ExpiryCome, Option.any_eq_true, dueAt_iff]

theorem deadlineDue_iff (i : Nat) :
    i < 128 ∧ deadlineDue s.toEnv s.play i = true ↔ ExpiryCome s (.deadlineExpiry i) := by
  simp [deadlineDue, ExpiryCome, Option.any_eq_true, dueAt_iff, KeyRecord.current]

theorem pulseEndDue_iff (d i : Nat) : pulseEndDue s.toEnv s.play d i = true ↔ ExpiryCome s (.pulseEndExpiry d i) := by
  simp [pulseEndDue, ExpiryCome, Option.any_eq_true, dueAt_iff]

theorem timeoutDue_iff (d i : Nat) : timeoutDue s.toEnv s.play d i = true ↔ ExpiryCome s (.stopTimeoutExpiry d i) := by
  simp [timeoutDue, ExpiryCome, Option.any_eq_true, dueAt_iff]

theorem applyTickDue_iff (which : ApplyTick) :
    applyTickDue s.toEnv s.play which = true ↔ ExpiryCome s (.applyTickExpiry which) := by
  cases which <;> exact agesOut_iff

theorem scanDue_iff : s.toEnv.scanDue = true ↔ ExpiryCome s .scanStart := by
  simp [Env.scanDue, Chain.closes, ExpiryCome, dueAt_iff, and_assoc]

end

/-! ### The parts of the list -/

theorem mem_whenDue {b : Bool} {x c : Instr} : c ∈ whenDue b x ↔ b = true ∧ c = x := by
  cases b <;> simp [whenDue]

theorem mem_slotDue {e : Env} {p : Play} {i : Nat} {c : Instr} : c ∈ slotDue e p i ↔
    (onTimeDue e p i = true ∧ c = .onTimeExpiry i) ∨ (offTimeDue e p i = true ∧ c = .offTimeExpiry i) ∨
    (deadlineDue e p i = true ∧ c = .deadlineExpiry i) := by
  simp [slotDue, mem_whenDue]

theorem mem_stopDue {e : Env} {p : Play} {d i : Nat} {c : Instr} : c ∈ stopDue e p d i ↔
    (pulseEndDue e p d i = true ∧ c = .pulseEndExpiry d i) ∨
    (timeoutDue e p d i = true ∧ c = .stopTimeoutExpiry d i) := by
  simp [stopDue, mem_whenDue]

theorem mem_channelDue {s : State} {k : Nat} {c : Instr} : c ∈ channelDue s k ↔
    (s.lastOnsetDue k = true ∧ c = .lastOnsetExpiry k) ∨ (s.lastReleaseDue k = true ∧ c = .lastReleaseExpiry k) ∨
    (candidateDue s.toEnv s.play k = true ∧ c = .candidateExpiry k) := by
  simp [channelDue, mem_whenDue]

theorem mem_trackerDue {e : Env} {p : Play} {c : Instr} : c ∈ trackerDue e p ↔
    (rebaseDue e p = true ∧ c = .rebase) ∨ (fermataDue e p = true ∧ c = .fermataExpiry) ∨
    (maximumEndDue e p = true ∧ c = .maximumEndExpiry) ∨ (lastAnchorDue e p = true ∧ c = .lastMatchedAnchorExpiry) ∨
    (referenceDue e p = true ∧ c = .referenceTimeExpiry) := by
  simp [trackerDue, mem_whenDue]

theorem mem_buttons (b : Button) : b ∈ [Button.go, Button.hold, Button.stop] := by
  cases b <;> decide

theorem mem_readerDue {e : Env} {p : Play} {c : Instr} : c ∈ readerDue e p ↔
    (gapEndDue e p = true ∧ c = .gapEnd) ∨ (schedulingDue e p = true ∧ c = .schedulingExpiry) ∨
    (∃ b, (p.reader.cue b).due e.clock = true ∧ c = .cueDebounceExpiry b) ∨
    (lastCueDue e p = true ∧ c = .lastCueExpiry) := by
  simp only [readerDue, List.mem_append, List.mem_flatMap, mem_whenDue, mem_buttons, true_and, or_assoc]

theorem mem_mapFrom {α β : Type} {f : Nat → α → β} {k : Nat} {l : List α} {y : β} :
    y ∈ mapFrom f k l ↔ ∃ i a, l[i]? = some a ∧ f (k + i) a = y := by
  simp only [List.mem_iff_getElem?, mapFrom_getElem?, Option.map_eq_some_iff]

/-- What the lists of a numbered map hold together. -/
theorem mem_flatten_mapFrom {α β : Type} {f : Nat → α → List β} {k : Nat} {l : List α} {x : β} :
    x ∈ (mapFrom f k l).flatten ↔ ∃ i a, l[i]? = some a ∧ x ∈ f (k + i) a := by
  rw [List.mem_flatten]
  constructor
  · rintro ⟨_, hm, hx⟩
    obtain ⟨i, a, ha, rfl⟩ := mem_mapFrom.mp hm
    exact ⟨i, a, ha, hx⟩
  · rintro ⟨i, a, ha, hx⟩
    exact ⟨_, mem_mapFrom.mpr ⟨i, a, ha, rfl⟩, hx⟩

/-- An expiry of a stop that has come is that of a stop with a record. -/
theorem stop_of_mem_stopDue {e : Env} {p : Play} {d i : Nat} {c : Instr} (h : c ∈ stopDue e p d i) :
    ∃ r, p.stop d i = some r := by
  obtain ⟨hd, -⟩ | ⟨hd, -⟩ := mem_stopDue.mp h
  · obtain ⟨r, hr, -⟩ := (Option.any_eq_true _ _).mp hd
    exact ⟨r, hr⟩
  · obtain ⟨r, hr, -⟩ := (Option.any_eq_true _ _).mp hd
    exact ⟨r, hr⟩

theorem mem_stopsDue {e : Env} {p : Play} {c : Instr} :
    c ∈ (mapFrom (fun d l => (mapFrom (fun i _ => stopDue e p d i) 0 l).flatten) 0 p.stops).flatten ↔
      ∃ d i, c ∈ stopDue e p d i := by
  simp only [mem_flatten_mapFrom, Nat.zero_add]
  constructor
  · rintro ⟨d, _, _, i, _, _, hc⟩
    exact ⟨d, i, hc⟩
  · rintro ⟨d, i, hc⟩
    obtain ⟨r, hr⟩ := stop_of_mem_stopDue hc
    obtain ⟨l, hl, hi⟩ := Option.bind_eq_some_iff.mp hr
    exact ⟨d, l, hl, i, r, hi, hc⟩

/-- The commands of the list, part by part. -/
theorem mem_dueEvents_iff {s : State} {c : Instr} : c ∈ s.dueEvents ↔
    (s.gapDue = true ∧ c = .frameGapExpiry) ∨ (∃ i < 2, s.lossDue i = true ∧ c = .inputLost i) ∨
    (∃ k < 4, c ∈ channelDue s k) ∨ (windowDue s.toEnv s.play = true ∧ c = .windowCloseExpiry) ∨
    (∃ i < s.play.matcher.anchors.length, matchedTimeDue s.toEnv s.play i = true ∧ c = .matchedTimeExpiry i) ∨
    c ∈ trackerDue s.toEnv s.play ∨ c ∈ readerDue s.toEnv s.play ∨ (∃ i < 128, c ∈ slotDue s.toEnv s.play i) ∨
    (∃ d i, c ∈ stopDue s.toEnv s.play d i) ∨
    (applyTickDue s.toEnv s.play .start = true ∧ c = .applyTickExpiry .start) ∨
    (applyTickDue s.toEnv s.play .stop = true ∧ c = .applyTickExpiry .stop) ∨
    (hasCome s.clock s.swell.nextUpdate = true ∧ c = .swellUpdate) ∨
    (hasCome s.clock s.swell.nextPeriod = true ∧ c = .swellPeriodStart) ∨
    (s.toEnv.scanDue = true ∧ c = .scanStart) := by
  simp only [State.dueEvents, List.mem_append, List.mem_flatMap, List.mem_range, mem_whenDue, mem_stopsDue, or_assoc,
    Config.channels, Config.keyingSlots]

/-- A matched time has come only of an anchor there is. -/
theorem lt_of_matchedTimeDue {e : Env} {p : Play} {i : Nat} (h : matchedTimeDue e p i = true) :
    i < p.matcher.anchors.length := by
  obtain ⟨a, _, ha, -⟩ := agesOut_bind_iff.mp h
  exact (List.getElem?_eq_some_iff.mp ha).1

/-- The queued expiries are those that have come. -/
theorem mem_dueEvents {s : State} {c : Instr} : c ∈ s.dueEvents ↔ ExpiryCome s c := by
  rw [mem_dueEvents_iff]
  simp only [mem_channelDue, mem_trackerDue, mem_readerDue, mem_slotDue, mem_stopDue]
  cases c with
  | frameGapExpiry => simpa using gapDue_iff s
  | inputLost i => simpa using lossDue_iff s i
  | lastOnsetExpiry k => simpa using lastOnsetDue_iff s k
  | lastReleaseExpiry k => simpa using lastReleaseDue_iff s k
  | candidateExpiry k => simpa using candidateDue_iff s k
  | windowCloseExpiry => simpa using windowDue_iff s
  | matchedTimeExpiry i =>
    rw [← matchedTimeDue_iff]
    simpa using lt_of_matchedTimeDue
  | rebase => simpa using rebaseDue_iff s
  | fermataExpiry => simpa using fermataDue_iff s
  | maximumEndExpiry => simpa using maximumEndDue_iff s
  | lastMatchedAnchorExpiry => simpa using lastAnchorDue_iff s
  | referenceTimeExpiry => simpa using referenceDue_iff s
  | gapEnd => simpa using gapEndDue_iff s
  | schedulingExpiry => simpa using schedulingDue_iff s
  | cueDebounceExpiry b => simpa using cueDue_iff s b
  | lastCueExpiry => simpa using lastCueDue_iff s
  | onTimeExpiry i => simpa using onTimeDue_iff s i
  | offTimeExpiry i => simpa using offTimeDue_iff s i
  | deadlineExpiry i => simpa using deadlineDue_iff s i
  | pulseEndExpiry d i => simpa using pulseEndDue_iff s d i
  | stopTimeoutExpiry d i => simpa using timeoutDue_iff s d i
  | applyTickExpiry which =>
    rw [← applyTickDue_iff]
    cases which <;> simp
  | swellUpdate => simp [ExpiryCome]
  | swellPeriodStart => simp [ExpiryCome]
  | scanStart => simpa using scanDue_iff s
  | _ => simp [ExpiryCome]

/-! ### The step on an empty queue -/

/-- The idle step, with the expiries that have come as one list. -/
theorem idle_eq (s : State) : s.idle =
    if s.inReset then s
    else if s.play.atOnce ≠ [] then afterwards s s.play
    else if s.dueEvents ≠ [] then { s with pending := s.dueEvents }
    else { s with clock := s.clock + 1 } := by
  unfold State.idle
  cases hd : s.dueEvents with
  | nil => rfl
  | cons c cs => rfl

/-- Settles O2: the idle step's four cases, and the membership of each expiry in the list it queues. -/
theorem emptyQueueStep : Obligations.EmptyQueueStep := by
  refine ⟨fun s hs => ?_, fun s c => mem_dueEvents, fun s p hp => afterwards_settled hp⟩
  rw [← idle_eq]
  simp only [step, hs]

end Sys2Proof.Machine
end

section
/-! SUPPORT (O16, O17). What playing can do to the service list's cursor, the IN_USE mark, the tracker and the reader:
a list of moves, and each operation of playing as a run of moves. An invariant of these four that every move keeps is
kept by every step. -/

namespace Sys2Proof.Machine

/-! ### What the moves are of -/

/-- A play with all but its cursor, IN_USE mark, tracker and reader put away. -/
def Play.core (p : Play) : Play :=
  { p with
    latches := 0, counters := [], matcher := .afterReset .firstArrival 0, slots := [], stops := [], apply := .none
    atOnce := [] }

/-- R92, R114: the tracker at a section's end; a hold in progress ends. -/
def Tracker.sectionEnded (tr : Tracker) : Tracker :=
  { tr with
    inPlay := false, fermata := none, fermataAt := none
    hold := if tr.state = .holding then none else tr.hold
    state := if tr.state = .holding then tr.afterHold else tr.state }

/-- One move of playing over a library and a service list: what it changes, and what has held before it. -/
inductive Move (l : Library) (items : List Item) (p : Play) : Play → Prop
  /-- The beat reference moves, or a fermata or the last matched anchor comes or goes (R107, R111, R121, R141). -/
  | reference (time : Option Tick) (position : Nat) (fermata : Option Fermata) (due : Option Tick)
      (last : Option MatchPoint) : Move l items p { p with tracker := { p.tracker with
        refTime := time, refPos := position, fermata := fermata, fermataAt := due, lastAnchor := last } }
  /-- R120. -/
  | miss (misses : Nat) (state : TrackerState) (hm : misses ≤ max 255 p.tracker.misses)
      (hs : state = p.tracker.state ∨ p.tracker.state = .following ∧ state = .coasting) :
      Move l items p { p with tracker := { p.tracker with misses := misses, state := state } }
  /-- R115 to R117. -/
  | correction (a : Nat) (t : Tick) (h : p.tracker.tracking = true) :
      Move l items p { p with tracker := p.tracker.corrected a t }
  /-- R123. -/
  | holdStart (time : Tick) (position : Nat) (hold : Hold) (fermata : Option Fermata)
      (h : p.tracker.tracking = true) : Move l items p { p with tracker := { p.tracker with
        state := .holding, refPos := position, refTime := some time, hold := some hold, fermata := fermata } }
  /-- R124. -/
  | holdLonger (hold : Hold) (h : p.tracker.hold.isSome = true) :
      Move l items p { p with tracker := { p.tracker with hold := some hold } }
  /-- R126. -/
  | holdEnd (time : Tick) (position : Nat) (h : p.tracker.state = .holding) :
      Move l items p { p with tracker := { p.tracker with
        refPos := position, refTime := some time, state := p.tracker.afterHold, misses := 0, lastAnchor := none
        hold := none } }
  /-- R112. -/
  | trackParams (a : TrackArg) : Move l items p { p with tracker := { p.tracker with params := storedTrack a } }
  /-- The reader's expiry, wait, cause, last cue or a cue input changes (R131). -/
  | readerMarks (sched : Option Tick) (wait : Option Nat) (cause : Option EndCause) (last : Option LastCue)
      (go hold stop : CueInput) : Move l items p { p with reader := { p.reader with
        schedAt := sched, wait := wait, cause := cause, lastCue := last, cueGo := go, cueHold := hold
        cueStop := stop } }
  /-- R151. -/
  | horizon (n : Nat) : Move l items p { p with reader := { p.reader with horizon := clamp 100 1000 n } }
  /-- R140. -/
  | eventScheduled (k total : Nat) (hr : p.reader.cursor.isSome = true) (hc : p.cursor.isSome = true)
      (hu : p.inUse.isSome = true) : Move l items p { p with reader := p.reader.advance k total }
  /-- R113, R138. -/
  | sectionStart (e : Env) (tag first : Nat) (evs : List ScoreEvent) (sec : Section)
      (hs : p.reader.section = some sec) (hc : p.cursor.isSome = true) (hu : p.inUse.isSome = true) :
      Move l items p { p with
        tracker := (trackerSectionStart e tag first p.reader.givenBounds p).tracker
        reader := p.reader.atSectionStart evs }
  /-- R137. -/
  | gap (t : Tick) (h : p.reader.flow = .preparing) :
      Move l items p { p with reader := { p.reader with flow := .gap, gapEnd := some t } }
  /-- R132, R133, R144: an item is taken up, and its first section prepared or GO waited for. -/
  | itemTakenUp (i n : Nat) (item : Item) (en : Entry) (tune : Tune) (flow : FlowState) (inHand : Option Nat)
      (hidle : p.reader.flow = .idle) (hi : items[i]? = some item) (hn : l.entry n = some en)
      (hr : en.state = .ready) (ht : readTune l.mem en = some tune)
      (hgo : flow = .waiting ∧ inHand = none ∨ flow = .preparing ∧ inHand = some 0) :
      Move l items p { p with
        cursor := some i, inUse := some n
        reader := { p.reader with
          plan := some (sectionPlan item tune.derived.amenPresent), inHand := inHand
          tempo := some (effectiveTempo item.tempo tune.header), flow := flow } }
  /-- R148: GO while WAITING. -/
  | firstSection (h : p.reader.flow = .waiting) :
      Move l items p { p with reader := { p.reader with flow := .preparing, inHand := some 0 } }
  /-- R143: a section ends and the next is prepared. -/
  | nextSection (h : p.reader.inSection = true) : Move l items p { p with
      tracker := p.tracker.sectionEnded
      reader := { p.reader.atSectionEnd with flow := .preparing, inHand := some (p.reader.inHand.getD 0 + 1) } }
  /-- R114, R146. -/
  | itemEnd (cause : EndCause) : Move l items p { p with
      tracker := trackerIdle p.tracker, reader := p.reader.atItemEnd cause, inUse := none }
  /-- R144: the end action moves the cursor. -/
  | cursor (c : Option Nat) (hidle : p.reader.flow = .idle) (hc : ∀ i, c = some i → i < items.length) :
      Move l items p { p with cursor := c }

/-- Play q comes from play p by moves, over the library and the service list that e holds. -/
def PlaysOn (e : Env) (p q : Play) : Prop := Relation.ReflTransGen (Move e.library e.items) p.core q.core

section
variable {e : Env} {p q r : Play}

theorem PlaysOn.of_core (h : q.core = p.core) : PlaysOn e p q := by
  rw [PlaysOn, h]

theorem PlaysOn.refl (e : Env) (p : Play) : PlaysOn e p p := .of_core rfl

theorem PlaysOn.trans (h : PlaysOn e p q) (h' : PlaysOn e q r) : PlaysOn e p r := Relation.ReflTransGen.trans h h'

/-- What a move reads and changes is not put away. -/
theorem Move.core {l : Library} {items : List Item} (h : Move l items p q) : Move l items p.core q.core := by
  cases h with
  | reference time position fermata due last => exact .reference time position fermata due last
  | miss misses state hm hs => exact .miss misses state hm hs
  | correction a t h => exact .correction a t h
  | holdStart time position hold fermata h => exact .holdStart time position hold fermata h
  | holdLonger hold h => exact .holdLonger hold h
  | holdEnd time position h => exact .holdEnd time position h
  | trackParams a => exact .trackParams a
  | readerMarks sched wait cause last go hold stop => exact .readerMarks sched wait cause last go hold stop
  | horizon n => exact .horizon n
  | eventScheduled k total hr hc hu => exact .eventScheduled k total hr hc hu
  | sectionStart e tag first evs sec hs hc hu => exact .sectionStart e tag first evs sec hs hc hu
  | gap t h => exact .gap t h
  | itemTakenUp i n item en tune flow inHand hidle hi hn hr ht hgo =>
    exact .itemTakenUp i n item en tune flow inHand hidle hi hn hr ht hgo
  | firstSection h => exact .firstSection h
  | nextSection h => exact .nextSection h
  | itemEnd cause => exact .itemEnd cause
  | cursor c hidle hc => exact .cursor c hidle hc

/-- One move leads to every play with the core it gives. -/
theorem PlaysOn.move (h : Move e.library e.items p q) (hc : r.core = q.core) : PlaysOn e p r := by
  rw [PlaysOn, hc]
  exact .single h.core

/-- What leads to a play leads to every play with its core. -/
theorem PlaysOn.core_right (h : PlaysOn e p q) (hc : r.core = q.core) : PlaysOn e p r := h.trans (.of_core hc)

/-- What starts from a play starts from every play with its core. -/
theorem PlaysOn.core_left (h : PlaysOn e q r) (hc : q.core = p.core) : PlaysOn e p r := (PlaysOn.of_core hc).trans h

end

/-! ### Operations that move nothing -/

section
variable (e : Env) (i : Nat) (p : Play)

@[simp] theorem Play.latch_core (l : Latch) : (p.latch l).core = p.core := rfl
@[simp] theorem Play.count_core (c : Counter) : (p.count c).core = p.core := rfl
@[simp] theorem Play.countMany_core (c : Counter) (n : Nat) : (p.countMany c n).core = p.core := rfl
@[simp] theorem Play.push_core (d : Due) : (p.push d).core = p.core := rfl
@[simp] theorem Play.setRec_core (r : Option KeyRecord) : (p.setRec i r).core = p.core := rfl
@[simp] theorem Play.setStop_core (d : Nat) (r : StopRecord) : (p.setStop d i r).core = p.core := rfl
@[simp] theorem Play.mapStops_core (f : Nat → Nat → StopRecord → StopRecord) : (p.mapStops f).core = p.core := rfl
@[simp] theorem Play.setMatcher_core (m : Matcher) : (p.setMatcher m).core = p.core := rfl

@[simp] theorem Play.countIf_core (b : Bool) (c : Counter) : (p.countIf b c).core = p.core := by
  cases b <;> rfl

@[simp] theorem pushIfDue_core : (pushIfDue e i p).core = p.core := by
  unfold pushIfDue
  repeat' split
  all_goals rfl

@[simp] theorem rederive_core : (rederive e i p).core = p.core := by
  unfold rederive
  split <;> simp

@[simp] theorem unlink_core : (unlink e i p).core = p.core := by
  unfold unlink
  split
  · rfl
  · split <;> simp

@[simp] theorem retire_core : (retire e i p).core = p.core := by
  unfold retire
  split
  · rfl
  · simp only
    split
    · simp
    · split <;> simp

@[simp] theorem keyRecord_core : (keyRecord e i p).core = p.core := by
  unfold keyRecord
  split
  · rfl
  · split
    · simp only
      split <;> simp
    · rfl

@[simp] theorem joinRecord_core (r : KeyRecord) (sp : Span) (n : NoteIn) (stop : Nat) :
    (joinRecord e i r sp n stop p).core = p.core := by
  simp [joinRecord]

@[simp] theorem placeRecord_core (n : NoteIn) : (placeRecord e n i p).core = p.core := by
  unfold placeRecord
  cases p.latest n with
  | none =>
    simp only
    split <;> simp
  | some x =>
    simp only
    split <;> simp

@[simp] theorem newRecord_core (n : NoteIn) : (newRecord e n p).core = p.core := by
  unfold newRecord
  split
  · simp
  · split <;> simp

@[simp] theorem takeNote_core (n : NoteIn) : (takeNote e n p).core = p.core := by
  unfold takeNote
  simp only
  repeat' split
  all_goals simp

@[simp] theorem retime_core : (retime e p).core = p.core := rfl
@[simp] theorem convertAtHoldStart_core (position : Nat) : (convertAtHoldStart e position p).core = p.core := rfl

/-- A fold of operations that move nothing moves nothing. -/
theorem foldl_core {α : Type} {f : Play → α → Play} (h : ∀ q a, (f q a).core = q.core) (l : List α) :
    (l.foldl f p).core = p.core := by
  induction l generalizing p with
  | nil => rfl
  | cons a l ih => rw [List.foldl_cons, ih, h]

@[simp] theorem convertAtHoldEnd_core (resume : Nat) : (convertAtHoldEnd e resume p).core = p.core :=
  foldl_core p (fun q j => retire_core e j q) _

@[simp] theorem handNote_core (reg : Registration) (tune : Tune) (origin : Origin) (tag position : Nat) (note : Note) :
    (handNote e reg tune origin tag position p note).core = p.core := by
  refine foldl_core p (fun q route => ?_) _
  unfold handOnRoute
  split <;> simp

@[simp] theorem deriveWindow_core : (deriveWindow e p).core = p.core := by
  rw [deriveWindow_eq]
  rfl

@[simp] theorem takeUpStops_core (reg : Registration) : (takeUpStops e reg p).core = p.core := rfl
@[simp] theorem abandonApply_core : (abandonApply e p).core = p.core := rfl
@[simp] theorem closeStops_core : (closeStops e p).core = p.core := rfl
@[simp] theorem retireAll_core : (retireAll p).core = p.core := rfl

@[simp] theorem closeTables_core (survey : Bool) : (closeTables e survey p).core = p.core := by
  unfold closeTables
  cases survey <;> rfl

@[simp] theorem endPulse_core (d : Nat) : (endPulse e d i p).core = p.core := by
  unfold endPulse
  split
  · rfl
  · simp only
    repeat' split
    all_goals rfl

@[simp] theorem expireCandidate_core (c : Nat) : (expireCandidate e c p).core = p.core := by
  unfold expireCandidate
  split
  · rfl
  · split <;> simp

@[simp] theorem takeOnTime_core : (takeOnTime e i p).core = p.core := by
  unfold takeOnTime
  split <;> simp

@[simp] theorem takeOffTime_core : (takeOffTime e i p).core = p.core := by
  unfold takeOffTime
  split <;> simp

@[simp] theorem takeDeadline_core : (takeDeadline e i p).core = p.core := by
  unfold takeDeadline
  split <;> simp

@[simp] theorem forgetMatchedTime_core : (forgetMatchedTime e i p).core = p.core := by
  unfold forgetMatchedTime
  split <;> rfl

end

end Sys2Proof.Machine
end

section
/-! SUPPORT (O16, O17). Each operation of playing as a run of moves. -/

namespace Sys2Proof.Machine

/-! ### What playing reads -/

section
variable {e : Env} {p : Play}

theorem cursor_of_playingItem {item : Item} (h : e.playingItem p = some item) : p.cursor.isSome = true := by
  obtain ⟨i, hi, -⟩ := Option.bind_eq_some_iff.mp h
  rw [hi]
  rfl

theorem inUse_of_playingTune {tune : Tune} (h : e.playingTune p = some tune) : p.inUse.isSome = true := by
  obtain ⟨en, hen, -⟩ := Option.bind_eq_some_iff.mp h
  obtain ⟨n, hn, -⟩ := Option.bind_eq_some_iff.mp hen
  rw [hn]
  rfl

theorem cursor_of_eventAtCursor {x : Nat × ScoreEvent} (h : e.eventAtCursor p = some x) :
    p.reader.cursor.isSome = true := by
  unfold Env.eventAtCursor at h
  split at h
  · rename_i hc
    rw [hc]
    rfl
  · cases h

/-- The entry that a search of the directory finds is there and passes the test. -/
theorem Library.entry_of_find {l : Library} {f : Entry → Bool} {n : Nat} (h : l.find f = some n) :
    ∃ en, l.entry n = some en ∧ f en = true := by
  obtain ⟨hn, hf, -⟩ := List.findIdx?_eq_some_iff_getElem.mp h
  obtain ⟨en, hen, hf⟩ := (Option.any_eq_true _ _).mp hf
  exact ⟨en, by simp [Library.entry, List.getElem?_eq_getElem hn, hen], hf⟩

/-- R133: an item can be taken up when its tune is READY. -/
theorem entry_of_playable {id n : Nat} {tune : Tune} (h : e.playable id = some (n, tune)) :
    ∃ en, e.library.entry n = some en ∧ en.state = .ready ∧ readTune e.library.mem en = some tune := by
  obtain ⟨m, hm, h⟩ := Option.bind_eq_some_iff.mp h
  obtain ⟨t, ht, h⟩ := Option.map_eq_some_iff.mp h
  cases h
  obtain ⟨en, hen, hr⟩ := Library.entry_of_find hm
  rw [hen] at ht
  exact ⟨en, hen, by simpa using (Bool.and_eq_true_iff.mp hr).1, ht⟩

end

/-! ### Following the reference (R118) -/

section
variable (e : Env) (p : Play)

theorem playsOn_deriveScheduling : PlaysOn e p (deriveScheduling e p) := by
  rw [deriveScheduling_eq]
  exact .move (.readerMarks (schedulingFor e p) p.reader.wait p.reader.cause p.reader.lastCue p.reader.cueGo
    p.reader.cueHold p.reader.cueStop) rfl

theorem playsOn_deriveFermata : PlaysOn e p (deriveFermata e p) := by
  rw [deriveFermata_eq]
  exact .move (.reference p.tracker.refTime p.tracker.refPos p.tracker.fermata _ p.tracker.lastAnchor) rfl

theorem playsOn_deriveExpiries : PlaysOn e p (deriveExpiries e p) :=
  ((playsOn_deriveScheduling e _).core_left (deriveWindow_core e p)).trans (playsOn_deriveFermata e _)

theorem playsOn_trackerUpdate : PlaysOn e p (trackerUpdate e p) :=
  (playsOn_deriveExpiries e _).core_left (retime_core e p)

theorem playsOn_takeMiss : PlaysOn e p (takeMiss p) := by
  rw [takeMiss_eq]
  refine .move (.miss _ _ ?_ ?_) rfl
  · split <;> omega
  · split
    · exact .inr ⟨And.left ‹_›, rfl⟩
    · exact .inl rfl

theorem playsOn_closeWindow : PlaysOn e p (closeWindow e p) := by
  unfold closeWindow
  split
  · exact .refl e p
  · simp only
    refine PlaysOn.core_right ?_ (deriveWindow_core e _)
    exact (playsOn_takeMiss e _).core_left rfl

theorem playsOn_takeWindowClose : PlaysOn e p (takeWindowClose e p) := by
  unfold takeWindowClose
  split
  · exact playsOn_closeWindow e p
  · exact .refl e p

theorem playsOn_takeCorrection (a : Nat) (t : Tick) (tag : Option Nat) : PlaysOn e p (takeCorrection e a t tag p) := by
  unfold takeCorrection
  simp only
  split
  · refine PlaysOn.trans (.move (.correction a t (And.left ‹_›)) ?_) (playsOn_trackerUpdate e _)
    split <;> simp
  · exact .refl e p

theorem playsOn_rebaseNow : PlaysOn e p (rebaseNow e p) := by
  unfold rebaseNow
  simp only
  split
  · exact .refl e p
  · exact PlaysOn.trans (.move (.reference _ _ p.tracker.fermata p.tracker.fermataAt p.tracker.lastAnchor) rfl)
      (playsOn_trackerUpdate e _)

theorem playsOn_putTrack (a : TrackArg) : PlaysOn e p (putTrack (storedTrack a) e p) := by
  unfold putTrack
  simp only
  split
  · exact .move (.trackParams a) rfl
  · exact .move (.trackParams a) (deriveWindow_core e _)

/-! ### Holds (R121 to R127) -/

variable {p} in
theorem playsOn_enterHold (entry : HoldEntry) (f : Fermata) (h : p.tracker.tracking = true) :
    PlaysOn e p (enterHold e entry f p) := by
  unfold enterHold
  simp only
  refine PlaysOn.trans ?_ (playsOn_deriveExpiries e _)
  exact .move (.holdStart e.clock f.position (holdRecordFor e p.tracker entry f) _ h) rfl

theorem playsOn_extendHold : PlaysOn e p (extendHold e p) := by
  unfold extendHold
  split
  · exact .refl e p
  · exact PlaysOn.trans (.move (.holdLonger _ (Option.isSome_of_eq_some ‹_›)) rfl) (playsOn_trackerUpdate e _)

theorem playsOn_endHold : PlaysOn e p (endHold e p) := by
  unfold endHold
  simp only
  split
  · rename_i hold hs hh
    have ended : PlaysOn e p { p with tracker := { p.tracker with
        refPos := hold.resume
        refTime := some (e.clock + ticks (spanTicks p.tracker.params.breath p.tracker.period))
        state := p.tracker.afterHold, misses := 0, lastAnchor := none, hold := none } } :=
      .move (.holdEnd _ _ hs) rfl
    refine PlaysOn.trans (ended.trans ?_) (playsOn_deriveExpiries e _)
    refine PlaysOn.core_right ?_ (convertAtHoldEnd_core e _ _)
    exact .move (.readerMarks p.reader.schedAt _ p.reader.cause p.reader.lastCue p.reader.cueGo p.reader.cueHold
      p.reader.cueStop) rfl
  · exact .refl e p

/-- A fermata expiry that has come finds the tracker following (R121). -/
theorem playsOn_takeFermata : PlaysOn e p (takeFermata e p) := by
  unfold takeFermata
  split
  · rename_i hd
    split
    · exact playsOn_enterHold e _ _ (Bool.and_eq_true_iff.mp (Bool.and_eq_true_iff.mp hd).1).1
    · exact .refl e p
  · exact .refl e p

/-! ### Reports (R95 to R103) -/

theorem playsOn_matchAnchor (c : Nat) (t : Tick) (a : Anchor) : PlaysOn e p (matchAnchor e c t a p) := by
  unfold matchAnchor
  simp only
  exact ((playsOn_takeCorrection e _ _ _ _).core_left (by simp)).core_right (deriveWindow_core e _)

theorem playsOn_testReport (c : Nat) (t : Tick) : PlaysOn e p (testReport e c t p) := by
  unfold testReport
  split
  · split <;> exact .of_core rfl
  · split
    · exact playsOn_matchAnchor e p c t _
    · exact .of_core rfl

theorem playsOn_takeFirstArrival (c : Nat) (t : Tick) : PlaysOn e p (takeFirstArrival e c t p) := by
  unfold takeFirstArrival
  split
  · exact playsOn_testReport e p c t
  · exact .of_core rfl

theorem playsOn_takePair (d : Nat) (k : Candidate) (c : Nat) (t : Tick) (strength : Nat) :
    PlaysOn e p (takePair e d k c t strength p) := by
  unfold takePair
  simp only
  split <;> exact (playsOn_testReport e _ _ _).core_left (by simp)

theorem playsOn_takeAgreement (c : Nat) (t : Tick) (strength : Nat) :
    PlaysOn e p (takeAgreement e c t strength p) := by
  have taken : ∀ q : Play, q.core = p.core → PlaysOn e p (match agreeing q.matcher c t with
      | some (d, k) => takePair e d k c t strength q
      | none =>
        if hasCome e.clock (t + ticks q.matcher.merge) then q.count (.unconfirmed c)
        else q.setMatcher (q.matcher.setCandidate c
          (some { time := t, strength := strength, expiry := t + ticks q.matcher.merge }))) := by
    intro q hq
    split
    · exact (playsOn_takePair e q _ _ _ _ _).core_left hq
    · split <;> exact .of_core hq
  unfold takeAgreement
  cases p.matcher.candidate c with
  | none => exact taken p rfl
  | some k => exact taken _ (by simp)

theorem playsOn_takeOnset (c : Nat) (t : Tick) (strength : Nat) : PlaysOn e p (takeOnset e c t strength p) := by
  unfold takeOnset
  split
  · exact playsOn_takeFirstArrival e p c t
  · split
    · exact playsOn_takeAgreement e p c t strength
    · exact .of_core rfl

theorem playsOn_takeRelease (t : Tick) : PlaysOn e p (takeRelease e t p) := by
  unfold takeRelease
  split
  · split
    · exact playsOn_endHold e p
    · exact .refl e p
  · exact .refl e p

theorem playsOn_takeReport (c : Nat) (r : Report) : PlaysOn e p (takeReport e c r p) := by
  unfold takeReport
  split
  · exact .refl e p
  · exact (playsOn_takeOnset e _ _ _ _).core_left (by simp)
  · exact (playsOn_takeRelease e _ _).core_left (by simp)

/-! ### Section starts and applies (R137, R138, R181 to R187) -/

/-- The tracker at a section start, apart from the latch of a hold it ends. -/
theorem trackerSectionStart_core (tag first : Nat) (given : Option Bounds) :
    (trackerSectionStart e tag first given p).core =
      { p with tracker := (trackerSectionStart e tag first given p).tracker }.core := by
  unfold trackerSectionStart
  simp only
  split <;> rfl

theorem playsOn_startSection : PlaysOn e p (startSection e p) := by
  unfold startSection
  split
  · rename_i item tune sec hi ht hs
    simp only
    refine PlaysOn.trans (.move (.sectionStart e (p.reader.atSectionStart (sectionEvents item tune sec)).tag
      (sectionFirst item tune sec) (sectionEvents item tune sec) sec hs (cursor_of_playingItem hi)
      (inUse_of_playingTune ht)) ?_) (playsOn_trackerUpdate e _)
    rw [Play.push_core, Play.latch_core, Play.setMatcher_core, trackerSectionStart_core]
    rfl
  · exact .refl e p

variable {p} in
theorem playsOn_beginGap (h : p.reader.flow = .preparing) : PlaysOn e p (beginGap e p) := by
  unfold beginGap
  split
  · exact playsOn_startSection e p
  · exact .move (.gap _ h) rfl

theorem playsOn_completeApply : PlaysOn e p (completeApply e p) := by
  unfold completeApply
  split
  · simp only
    split
    · exact (playsOn_beginGap e ‹_›).core_left rfl
    · exact .of_core rfl
  · exact .refl e p

theorem playsOn_requestApply (registration : Nat) (origin : ApplyOrigin) :
    PlaysOn e p (requestApply e registration origin p) := by
  unfold requestApply
  simp only
  exact (playsOn_completeApply e _).core_left rfl

theorem playsOn_timeOutStop (d i : Nat) : PlaysOn e p (timeOutStop e d i p) := by
  unfold timeOutStop
  split
  · exact .refl e p
  · split
    · simp only
      exact (playsOn_completeApply e _).core_left rfl
    · exact .refl e p

theorem playsOn_senseRead (bits : SenseImage) : PlaysOn e p (senseRead e bits p) := by
  unfold senseRead
  simp only
  refine (playsOn_completeApply e _).core_left ?_
  split <;> rfl

/-! ### The reader's flow (R132 to R150) -/

/-- R136: after the reader has entered PREPARING, its apply is asked for. -/
theorem playsOn_prepare (i : Nat) :
    PlaysOn e { p with reader := { p.reader with flow := .preparing, inHand := some i } } (prepare e i p) := by
  unfold prepare
  simp only
  split
  · exact playsOn_requestApply e _ _ _
  · exact .refl e _

theorem playsOn_itemEnd (cause : EndCause) : PlaysOn e p (itemEnd cause p) := by
  rw [itemEnd_eq]
  exact .move (.itemEnd cause) rfl

section
variable {e p} {i n : Nat} {item : Item} {tune : Tune} (hidle : p.reader.flow = .idle)
    (hi : e.items[i]? = some item) (ht : e.playable item.tuneId = some (n, tune))
include hidle hi ht

theorem playsOn_takeUp_prepare : PlaysOn e p (prepare e 0 (takeUp i n item tune p)) := by
  obtain ⟨en, hen, hr, ht⟩ := entry_of_playable ht
  exact PlaysOn.trans (.move (.itemTakenUp i n item en tune .preparing (some 0) hidle hi hen hr ht
    (.inr ⟨rfl, rfl⟩)) rfl) (playsOn_prepare e (takeUp i n item tune p) 0)

theorem playsOn_takeUp_waitForGo : PlaysOn e p (waitForGo (takeUp i n item tune p)) := by
  obtain ⟨en, hen, hr, ht⟩ := entry_of_playable ht
  exact .move (.itemTakenUp i n item en tune .waiting none hidle hi hen hr ht (.inl ⟨rfl, rfl⟩)) rfl

theorem playsOn_startItem (startMode : Nat) : PlaysOn e p (startItem i startMode n item tune e p) := by
  unfold startItem
  simp only
  split
  · exact playsOn_takeUp_prepare hidle hi ht
  · exact playsOn_takeUp_waitForGo hidle hi ht

end

variable {p} in
/-- The next item is taken up by what the end action then does, or the cause is NO TUNE (R144). -/
theorem playsOn_takeNext {next : Nat} {go : Play → Play}
    (h : ∀ it n tune, e.items[next]? = some it → e.playable it.tuneId = some (n, tune) →
      PlaysOn e p (go (takeUp next n it tune p))) : PlaysOn e p (takeNext e next go p) := by
  unfold takeNext
  split
  · rename_i it n tune hb
    obtain ⟨it', hit, hb⟩ := Option.bind_eq_some_iff.mp hb
    obtain ⟨x, hx, hb⟩ := Option.map_eq_some_iff.mp hb
    cases hb
    exact h it n tune hit hx
  · exact .move (.readerMarks p.reader.schedAt p.reader.wait (some .noTune) p.reader.lastCue p.reader.cueGo
      p.reader.cueHold p.reader.cueStop) rfl

variable {p} in
theorem playsOn_endAction (action : EndAction) (i : Nat) (hidle : p.reader.flow = .idle) :
    PlaysOn e p (endAction e action i p) := by
  unfold endAction
  split
  · exact .move (.cursor none hidle nofun) rfl
  · have moved : PlaysOn e p { p with cursor := some (i + 1) } :=
      .move (.cursor _ hidle (fun j hj => by cases hj; omega)) rfl
    simp only
    split
    · exact moved
    · exact moved.trans (playsOn_takeNext e (fun _ _ _ hi ht =>
        playsOn_takeUp_waitForGo (p := { p with cursor := some (i + 1) }) hidle hi ht))
    · exact moved.trans (playsOn_takeNext e (fun _ _ _ hi ht =>
        playsOn_takeUp_prepare (p := { p with cursor := some (i + 1) }) hidle hi ht))

theorem itemEnd_flow (cause : EndCause) : (itemEnd cause p).reader.flow = .idle := by
  rw [itemEnd_eq]
  rfl

/-- R92, R114, R143: a section's end, apart from the latch of a hold it ends and from the matcher. -/
theorem sectionEnd_core : (matcherSectionEnd (trackerSectionEnd p)).core =
    { p with tracker := p.tracker.sectionEnded }.core := by
  rcases p with ⟨la, co, cu, iu, ma, ⟨st, _⟩, rd, sl, so, ap, ao⟩
  cases st <;> rfl

/-- An item end clears what a section's end before it has cleared (R146). -/
theorem itemEnd_core (cause : EndCause) (q : Play)
    (h : q.core = { p with tracker := p.tracker.sectionEnded, reader := p.reader.atSectionEnd }.core) :
    (itemEnd cause q).core = { p with
      tracker := trackerIdle p.tracker, reader := p.reader.atItemEnd cause, inUse := none }.core := by
  have ended : (itemEnd cause q).core = { q.core with
      tracker := trackerIdle q.core.tracker, reader := q.core.reader.atItemEnd cause, inUse := none }.core := by
    rw [itemEnd_eq]
    rfl
  rw [ended, h]
  rfl

theorem playsOn_endSection (h : p.reader.inSection = true) : PlaysOn e p (endSection e p) := by
  have hq := sectionEnd_core p
  unfold endSection
  generalize matcherSectionEnd (trackerSectionEnd p) = q at hq
  have hreader : q.reader = p.reader := congrArg (fun q => q.reader) hq
  have hended : { q with reader := q.reader.atSectionEnd }.core =
      { p with tracker := p.tracker.sectionEnded, reader := p.reader.atSectionEnd }.core := by
    rw [hreader]
    exact congrArg (fun q => { q with reader := p.reader.atSectionEnd }) hq
  have ended : PlaysOn e p (itemEnd .complete { q with reader := q.reader.atSectionEnd }) :=
    .move (.itemEnd .complete) (itemEnd_core p _ _ hended)
  simp only
  split
  · split
    · exact ended.trans (playsOn_endAction e _ _ (itemEnd_flow _ _))
    · exact ended
  · refine PlaysOn.trans (.move (.nextSection h) ?_) (playsOn_prepare e _ _)
    rw [hreader]
    exact congrArg (fun q => { q with reader := { p.reader.atSectionEnd with
      flow := .preparing, inHand := some (p.reader.inHand.getD 0 + 1) } }) hq

theorem playsOn_testSectionEnd : PlaysOn e p (testSectionEnd e p) := by
  unfold testSectionEnd
  split
  · rename_i h
    exact playsOn_endSection e p (Bool.and_eq_true_iff.mp (Bool.and_eq_true_iff.mp h).1).1
  · exact .refl e p

/-! ### Scheduling and presses (R139 to R150) -/

theorem playsOn_setFermata (f : Fermata) : PlaysOn e p (setFermata e f p) := by
  unfold setFermata
  refine PlaysOn.trans (PlaysOn.trans (.move (.reference p.tracker.refTime p.tracker.refPos (some f)
    p.tracker.fermataAt p.tracker.lastAnchor) rfl) ?_) (playsOn_deriveFermata e _)
  exact .move (.readerMarks p.reader.schedAt (some f.position) p.reader.cause p.reader.lastCue p.reader.cueGo
    p.reader.cueHold p.reader.cueStop) rfl

variable {p} in
theorem playsOn_scheduleEvent (item : Item) (tune : Tune) (sec : Section) (k : Nat) (ev : ScoreEvent)
    (hr : p.reader.cursor.isSome = true) (hc : p.cursor.isSome = true) (hu : p.inUse.isSome = true) :
    PlaysOn e p (scheduleEvent e item tune sec k ev p) := by
  have advanced : ∀ (q : Play) (total : Nat), PlaysOn e p q → q.reader.cursor = p.reader.cursor →
      q.cursor = p.cursor → q.inUse = p.inUse →
      PlaysOn e p { q with reader := q.reader.advance k total } := by
    intro q total hq h1 h2 h3
    exact hq.trans (.move (.eventScheduled k total (h1 ▸ hr) (h2 ▸ hc) (h3 ▸ hu)) rfl)
  have noted := foldl_core p (handNote_core e · (e.registration (sectionRegistration item sec)) tune (originOf sec)
    p.reader.tag ev.position) ev.notes
  unfold scheduleEvent
  simp only
  generalize ev.notes.foldl _ p = q at noted ⊢
  have hreader : q.reader = p.reader := congrArg (fun q => q.reader) noted
  have hcursor : q.cursor = p.cursor := congrArg (fun q => q.cursor) noted
  have hinUse : q.inUse = p.inUse := congrArg (fun q => q.inUse) noted
  refine PlaysOn.trans ?_ ((playsOn_deriveScheduling e _).core_left (Play.push_core _ _))
  split
  · refine advanced _ _ ((PlaysOn.of_core noted).trans (playsOn_setFermata e q _)) ?_ ?_ ?_
    · rw [setFermata, deriveFermata_eq, hreader]
    · rw [setFermata, deriveFermata_eq, hcursor]
    · rw [setFermata, deriveFermata_eq, hinUse]
  · exact advanced q _ (.of_core noted) (by rw [hreader]) hcursor hinUse

theorem playsOn_schedule : PlaysOn e p (schedule e p) := by
  unfold schedule
  split
  · split
    · rename_i hi ht _ hv
      exact playsOn_scheduleEvent e _ _ _ _ _ (cursor_of_eventAtCursor hv) (cursor_of_playingItem hi)
        (inUse_of_playingTune ht)
    · exact .move (.readerMarks none p.reader.wait p.reader.cause p.reader.lastCue p.reader.cueGo
        p.reader.cueHold p.reader.cueStop) rfl
  · exact .refl e p

theorem playsOn_pressGo : PlaysOn e p (pressGo e p) := by
  unfold pressGo
  split
  · exact PlaysOn.trans (.move (.firstSection ‹_›) rfl) (playsOn_prepare e p 0)
  · split
    · exact playsOn_endHold e p
    · exact .refl e p

/-- A HOLD press that is taken finds a hold in progress or the tracker following (R122, R149). -/
theorem playsOn_pressHold : PlaysOn e p (pressHold e p) := by
  unfold pressHold
  split
  · rename_i ht
    split
    · exact playsOn_extendHold e p
    · rename_i hs
      split
      · have tracking : p.tracker.tracking = true := by
          simp only [holdTaken, hs, decide_false, Bool.false_or, Bool.and_eq_true] at ht
          exact ht.2.1.1
        refine PlaysOn.trans (.move (.readerMarks p.reader.schedAt _ p.reader.cause p.reader.lastCue
          p.reader.cueGo p.reader.cueHold p.reader.cueStop) rfl) (playsOn_enterHold e _ _ ?_)
        exact tracking
      · exact .refl e p
  · exact .refl e p

theorem playsOn_pressStop : PlaysOn e p (pressStop p) := by
  unfold pressStop
  split
  · exact .refl e p
  · exact playsOn_itemEnd e p _

theorem playsOn_recordPress (b : Button) (now : Tick) (taken : Bool) : PlaysOn e p (recordPress b now taken p) :=
  .move (.readerMarks p.reader.schedAt p.reader.wait p.reader.cause _ p.reader.cueGo p.reader.cueHold
    p.reader.cueStop) (Play.countIf_core _ _ _)

theorem playsOn_press (b : Button) : PlaysOn e p (press e b p) := by
  unfold press
  refine (playsOn_recordPress e p b e.clock (pressTaken e b p)).trans ?_
  simp only
  split
  · exact playsOn_pressGo e _
  · exact playsOn_pressHold e _
  · exact playsOn_pressStop e _

theorem playsOn_setCue (b : Button) (c : CueInput) : PlaysOn e p (setCue b c p) := by
  cases b with
  | go => exact .move (.readerMarks p.reader.schedAt p.reader.wait p.reader.cause p.reader.lastCue c
      p.reader.cueHold p.reader.cueStop) rfl
  | hold => exact .move (.readerMarks p.reader.schedAt p.reader.wait p.reader.cause p.reader.lastCue p.reader.cueGo
      c p.reader.cueStop) rfl
  | stop => exact .move (.readerMarks p.reader.schedAt p.reader.wait p.reader.cause p.reader.lastCue p.reader.cueGo
      p.reader.cueHold c) rfl

theorem playsOn_debounce (b : Button) : PlaysOn e p (debounce b e p) := by
  unfold debounce
  simp only
  split
  · split
    · exact (playsOn_setCue e p b _).trans (playsOn_press e _ b)
    · exact playsOn_setCue e p b _
  · exact .refl e p

theorem playsOn_cancelAll : PlaysOn e p (cancelAll p) := by
  unfold cancelAll
  simp only
  split
  · exact .of_core rfl
  · exact (playsOn_itemEnd e _ _).core_left rfl

theorem playsOn_faultTables : PlaysOn e p (faultTables e p) := by
  unfold faultTables
  simp only
  refine PlaysOn.core_right (q := if (retireAll p).reader.flow = .idle then retireAll p
    else itemEnd .fault (retireAll p)) ?_ rfl
  split
  · exact .of_core rfl
  · exact (playsOn_itemEnd e _ _).core_left rfl

theorem playsOn_putHorizon (n : Nat) : PlaysOn e p (putHorizon (clamp 100 1000 n) e p) :=
  PlaysOn.trans (.move (.horizon n) rfl) (playsOn_deriveScheduling e _)

/-! ### Expiries taken at once -/

theorem playsOn_takeDue (d : Due) : PlaysOn e p (takeDue e d p) := by
  cases d with
  | onTime i => exact .of_core (takeOnTime_core e i p)
  | offTime i => exact .of_core (takeOffTime_core e i p)
  | windowClose => exact playsOn_takeWindowClose e p
  | scheduling => exact playsOn_schedule e p
  | fermata => exact playsOn_takeFermata e p
  | sectionTest => exact playsOn_testSectionEnd e p

theorem playsOn_settle (n : Nat) : PlaysOn e p (settle e n p) :=
  settle_induct (P := PlaysOn e p) (fun _ _ h => h.core_right rfl) (fun d q h => h.trans (playsOn_takeDue e q d)) n
    (.refl e p)

end

end Sys2Proof.Machine
end

section
/-! SUPPORT (O15 to O17). What a step can do to the library, the service list and what playing moves: nothing, moves
of playing, one change of the library or of the service list, or a reset. The bytes of one step carry at most one
request out, for its answer makes the link busy (R197). -/

namespace Sys2Proof.Machine

/-! ### The changes -/

/-- One change of the library, while this entry carries the IN_USE mark (R34, R35, R41 to R45). -/
inductive LibraryMove (l : Library) (inUse : Option Nat) : Library → Prop
  | opened (tuneId length : Nat) (h : tuneOpenTest l tuneId length = none) :
      LibraryMove l inUse (l.openTune (l.freeEntry.getD 0) tuneId length)
  | stored (n : Nat) (en : Entry) (bytes : List Byte) (h : l.loading = some (n, en))
      (hb : bytes.length ≤ en.length - en.cursor) : LibraryMove l inUse (l.store n en bytes)
  | succeeded (n : Nat) (en : Entry) (d : Derived) (lineEnd : Option Nat) (h : l.validating = some (n, en))
      (hv : validate l.mem en = .ok (d, lineEnd)) : LibraryMove l inUse (l.succeed n en d lineEnd)
  | ended (n : Nat) (en : Entry) (tuneId : Nat) (outcome : LoadOutcome) (event : Option Nat)
      (hn : l.entry n = some en) (hr : en.state ≠ .ready) : LibraryMove l inUse (l.endLoad n tuneId outcome event)
  | retired (n : Nat) (hu : inUse ≠ some n) : LibraryMove l inUse (l.setEntry n none)

/-- One change of the service list and its cursor (R55 to R57). -/
inductive ItemsMove (items : List Item) (p : Play) : List Item → Option Nat → Prop
  | put (i : Nat) (a : ItemArg) (now : Tick) (hi : i ≤ items.length) (hl : items.length < 24)
      (ha : itemFieldTest now a = none) :
      ItemsMove items p (items.insertIdx i (storedItem a)) (cursorAfterInsert i p.cursor)
  | replaced (i : Nat) (a : ItemArg) (now : Tick) (ha : itemFieldTest now a = none) :
      ItemsMove items p (items.set i (storedItem a)) p.cursor
  | removed (i : Nat) (hi : i < items.length) (hp : p.cursor = some i → p.reader.flow = .idle) :
      ItemsMove items p (items.eraseIdx i) (cursorAfterRemove i (items.eraseIdx i).length p.cursor)

/-- The library, the service list and the core of what playing changes are as before. -/
structure SameTables (s t : State) : Prop where
  library : t.library = s.library
  items : t.items = s.items
  core : t.play.core = s.play.core

/-- Playing has gone on by moves, over the same library and service list. -/
structure Played (s t : State) : Prop where
  library : t.library = s.library
  items : t.items = s.items
  moves : PlaysOn s.toEnv s.play t.play

/-- What a step does to the tables. -/
inductive Changes (s t : State) : Prop
  | plays (h : Played s t)
  | loads (hi : t.items = s.items) (hp : t.play.core = s.play.core)
      (h : LibraryMove s.library s.play.inUse t.library)
  | lists (hl : t.library = s.library) (hp : t.play.core = { s.play with cursor := t.play.cursor }.core)
      (h : ItemsMove s.items s.play t.items t.play.cursor)
  | powerReset (hl : t.library = .powerUp) (hi : t.items = []) (hp : t.play.core = (State.powerUp 0).play.core)
  | preparedReset (hl : t.library = s.library.afterReset) (hi : t.items = s.items)
      (hp : t.play.core = (Play.afterReset s.play.cursor .firstArrival 0 s.play.tracker.params s.play.reader.horizon
        []).core)

section
variable {s t u v : State}

theorem SameTables.refl (s : State) : SameTables s s := ⟨rfl, rfl, rfl⟩

theorem SameTables.trans (h : SameTables s t) (h' : SameTables t u) : SameTables s u :=
  ⟨h'.library.trans h.library, h'.items.trans h.items, h'.core.trans h.core⟩

theorem SameTables.cursor (h : SameTables s t) : t.play.cursor = s.play.cursor := congrArg (fun p => p.cursor) h.core
theorem SameTables.inUse (h : SameTables s t) : t.play.inUse = s.play.inUse := congrArg (fun p => p.inUse) h.core
theorem SameTables.tracker (h : SameTables s t) : t.play.tracker = s.play.tracker :=
  congrArg (fun p => p.tracker) h.core
theorem SameTables.reader (h : SameTables s t) : t.play.reader = s.play.reader := congrArg (fun p => p.reader) h.core

/-- The moves of playing read the library and the service list alone of what playing does not change. -/
theorem PlaysOn.of_env {e e' : Env} {p q : Play} (hl : e'.library = e.library) (hi : e'.items = e.items)
    (h : PlaysOn e' p q) : PlaysOn e p q := by
  rwa [PlaysOn, hl, hi] at h

theorem SameTables.played (h : SameTables s t) : Played s t := ⟨h.library, h.items, .of_core h.core⟩

theorem Played.refl (s : State) : Played s s := (SameTables.refl s).played

theorem Played.trans (h : Played s t) (h' : Played t u) : Played s u :=
  ⟨h'.library.trans h.library, h'.items.trans h.items, h.moves.trans (h'.moves.of_env h.library h.items)⟩

/-- What is played from a state is played from every state with its tables. -/
theorem Played.after (h : Played t u) (hs : SameTables s t) : Played s u := hs.played.trans h

theorem ItemsMove.of_core {items items' : List Item} {c : Option Nat} {p q : Play} (h : q.core = p.core)
    (hm : ItemsMove items q items' c) : ItemsMove items p items' c := by
  have hc : q.cursor = p.cursor := congrArg (fun p => p.cursor) h
  have hr : q.reader = p.reader := congrArg (fun p => p.reader) h
  cases hm with
  | put i a now hi hl ha => rw [hc]; exact .put i a now hi hl ha
  | replaced i a now ha => rw [hc]; exact .replaced i a now ha
  | removed i hi hp => rw [hc] at hp ⊢; rw [hr] at hp; exact .removed i hi hp

/-- A change before and after which the tables stay is that change. -/
theorem Changes.framed (h : SameTables s t) (hc : Changes t u) (h' : SameTables u v) : Changes s v := by
  cases hc with
  | plays hp => exact .plays ((h.played.trans hp).trans h'.played)
  | loads hi hp hm =>
    refine .loads (h'.items.trans (hi.trans h.items)) (h'.core.trans (hp.trans h.core)) ?_
    rw [h'.library, ← h.library, ← h.inUse]
    exact hm
  | lists hl hp hm =>
    refine .lists (h'.library.trans (hl.trans h.library)) ?_ ?_
    · rw [h'.core, hp, h'.cursor]
      exact congrArg (fun p => { p with cursor := u.play.cursor }) h.core
    · rw [h'.items, h'.cursor, ← h.items]
      exact hm.of_core h.core
  | powerReset hl hi hp => exact .powerReset (h'.library.trans hl) (h'.items.trans hi) (h'.core.trans hp)
  | preparedReset hl hi hp =>
    refine .preparedReset ?_ (h'.items.trans (hi.trans h.items)) ?_
    · rw [h'.library, hl, h.library]
    · rw [h'.core, hp, h.cursor, h.tracker, h.reader]

theorem SameTables.changes (h : SameTables s t) : Changes s t := .plays h.played

end

/-! ### Effects on what playing changes -/

theorem played_act {s : State} {f : Env → Play → Play} (h : PlaysOn s.toEnv s.play (f s.toEnv s.play)) :
    Played s (s.act f) :=
  ⟨rfl, rfl, h.trans (playsOn_settle _ _ _)⟩

theorem played_takeCandidates (held : List (Nat × Candidate)) (s : State) : Played s (s.takeCandidates held) := by
  induction held generalizing s with
  | nil => exact .refl s
  | cons x rest ih => exact (played_act (playsOn_takeFirstArrival _ _ _ _)).trans (ih _)

theorem played_deriveBehaviour (s : State) : Played s s.deriveBehaviour := by
  unfold State.deriveBehaviour
  simp only
  split
  · exact .refl s
  · exact (played_takeCandidates _ _).after ⟨rfl, rfl, rfl⟩

theorem played_setListening (s : State) (l : Listening) : Played s (s.setListening l) := by
  unfold State.setListening
  exact (played_deriveBehaviour _).after ⟨rfl, rfl, rfl⟩

theorem played_putMatch (s : State) (mode : MatchMode) (merge : Nat) : Played s (s.putMatch mode merge) := by
  unfold State.putMatch
  exact (played_deriveBehaviour _).after ⟨rfl, rfl, rfl⟩

theorem played_completeFrame (s : State) (i low high : Nat) : Played s (s.completeFrame i low high) := by
  unfold State.completeFrame
  simp only
  have reports : ∀ (u : State) (c d : Nat) (r r' : Report),
      Played u ((u.act (fun e p => takeReport e c r p)).act (fun e p => takeReport e d r' p)) := fun u c d r r' =>
    (played_act (playsOn_takeReport _ _ _ _)).trans (played_act (playsOn_takeReport _ _ _ _))
  split <;> exact (reports _ _ _ _ _).after ⟨rfl, rfl, rfl⟩

theorem played_takePair (s : State) (i : Nat) (a : AudioInput) (low high : Sample) :
    Played s (s.takePair i a low high) := by
  have latched : ∀ t : State, Played t (if a.present then t else { t with play := t.play.latch .microphone }) := by
    intro t
    split <;> exact SameTables.played ⟨rfl, rfl, rfl⟩
  unfold State.takePair
  simp only
  split
  · exact ((played_setListening s _).trans (latched _)).trans (played_completeFrame _ _ _ _)
  · exact (played_setListening s _).trans (latched _)

theorem played_deliverSense (s : State) (bits : SenseImage) : Played s (s.deliverSense bits) := by
  unfold State.deliverSense
  simp only
  refine Played.after (played_act ?_) ⟨rfl, rfl, rfl⟩
  exact playsOn_senseRead _ _ _

theorem played_compareRunning (s : State) (ret : ChestImage) : Played s (s.compareRunning ret) := by
  unfold State.compareRunning
  simp only
  split
  · exact SameTables.played ⟨rfl, rfl, rfl⟩
  · split
    · exact ⟨rfl, rfl, (playsOn_faultTables _ _).core_left rfl⟩
    · exact SameTables.played ⟨rfl, rfl, rfl⟩

theorem sameTables_compareFault (s : State) (ret : ChestImage) : SameTables s (s.compareFault ret) := by
  unfold State.compareFault
  repeat' split
  all_goals exact ⟨rfl, rfl, rfl⟩

theorem played_compare (s : State) (ret : ChestImage) : Played s (s.compare ret) := by
  unfold State.compare
  split
  · exact played_compareRunning s ret
  · exact (sameTables_compareFault s ret).played
  · exact .refl s

theorem played_completeScan (s : State) (image ret : ChestImage) (bits : SenseImage) :
    Played s (s.completeScan image ret bits) := by
  have latched : ∀ t : State, Played t (t.latchImage image) := fun t => SameTables.played ⟨rfl, rfl, rfl⟩
  have compareFirst := ((played_compare s ret).trans (played_deliverSense _ bits)).trans (latched _)
  unfold State.completeScan
  split
  · split
    · exact ((played_deliverSense s bits).trans (played_compare _ ret)).trans (latched _)
    · exact compareFirst
  · exact compareFirst

theorem sameTables_payAnswer (s : State) : SameTables s s.payAnswer := by
  unfold State.payAnswer
  split <;> exact ⟨rfl, rfl, rfl⟩

theorem sameTables_closingDone (s : State) : SameTables s s.closingDone := by
  unfold State.closingDone
  split
  · refine SameTables.trans ?_ (sameTables_payAnswer _)
    exact ⟨rfl, rfl, closeTables_core _ _ _⟩
  · exact .refl s

theorem sameTables_resetShiftDone (s : State) : SameTables s s.resetShiftDone := by
  unfold State.resetShiftDone
  split
  · simp only
    refine SameTables.trans ?_ (sameTables_payAnswer _)
    exact ⟨rfl, rfl, rfl⟩
  · exact .refl s

/-! ### Requests carried out -/

/-- What the line brings: nothing happens to the tables, or one request is carried out on a free link, which is busy
then. A busy link stays busy. -/
def Answered (s t : State) : Prop :=
  (SameTables s t ∨ s.link.busy = false ∧ Changes s t ∧ t.link.busy = true) ∧
  (s.link.busy = true → t.link.busy = true)

section
variable {s t u : State}

theorem Answered.same (h : SameTables s t) (hb : s.link.busy = true → t.link.busy = true) : Answered s t := ⟨.inl h, hb⟩

theorem Answered.changed (hs : s.link.busy = false) (h : Changes s t) (hb : t.link.busy = true) : Answered s t :=
  ⟨.inr ⟨hs, h, hb⟩, fun _ => hb⟩

theorem Answered.played (hs : s.link.busy = false) (h : Played s t) (hb : t.link.busy = true) : Answered s t :=
  .changed hs (.plays h) hb

theorem Answered.refl (s : State) : Answered s s := .same (.refl s) id

/-- Of two carryings out on the line at most one changes the tables. -/
theorem Answered.trans (h : Answered s t) (h' : Answered t u) : Answered s u := by
  refine ⟨?_, fun hb => h'.2 (h.2 hb)⟩
  obtain ⟨hs | ⟨hfree, hc, hbusy⟩, hkeep⟩ := h
  · obtain ⟨ht | ⟨hfree, hc, hbusy⟩, -⟩ := h'
    · exact .inl (hs.trans ht)
    · refine .inr ⟨?_, hc.framed hs (.refl u), hbusy⟩
      cases hb : s.link.busy with
      | false => rfl
      | true => rw [hkeep hb] at hfree; cases hfree
  · obtain ⟨ht | ⟨hfree', -, -⟩, hkeep'⟩ := h'
    · exact .inr ⟨hfree, hc.framed (.refl s) ht, hkeep' hbusy⟩
    · rw [hbusy] at hfree'
      cases hfree'

theorem Answered.changes (h : Answered s t) : Changes s t := by
  obtain ⟨hs | ⟨-, hc, -⟩, -⟩ := h
  · exact hs.changes
  · exact hc

theorem answered_reject (s : State) (code : Nat) (r : Reason) (d : Nat) : Answered s (s.reject code r d) :=
  .same ⟨rfl, rfl, rfl⟩ (fun _ => rfl)

theorem answered_tested {carry : State → State} (code : Nat) (test : Option (Reason × Nat))
    (h : test = none → Answered s (carry s)) : Answered s (s.tested code test carry) := by
  cases test with
  | none => exact h rfl
  | some x => exact answered_reject s code x.1 x.2

end

section
variable {s : State} (hs : s.link.busy = false)
include hs

theorem answered_act_reply {f : Env → Play → Play} (h : PlaysOn s.toEnv s.play (f s.toEnv s.play)) (code : Nat)
    (body : List Byte) : Answered s ((s.act f).reply code body) :=
  .played hs ((played_act h).trans (SameTables.played ⟨rfl, rfl, rfl⟩)) rfl

theorem answered_carryPlay (index startMode : Nat) : Answered s (carryPlay index startMode s) := by
  refine answered_tested _ _ (fun ht => ?_)
  unfold State.playItem
  split
  · exact .refl s
  · rename_i it n tune hb
    obtain ⟨it', hit, hb⟩ := Option.bind_eq_some_iff.mp hb
    obtain ⟨x, hx, hb⟩ := Option.map_eq_some_iff.mp hb
    cases hb
    have hidle : s.play.reader.flow = .idle := by
      by_contra hne
      unfold playTest at ht
      rw [if_pos hne] at ht
      split at ht <;> cases ht
    exact answered_act_reply hs (playsOn_startItem hidle hit hx startMode) _ _

theorem answered_carryTuneOpen (tuneId length : Nat) : Answered s (carryTuneOpen tuneId length s) :=
  answered_tested _ _ (fun ht => .changed hs (.loads rfl rfl (.opened tuneId length ht)) rfl)

theorem answered_carryTuneData (bytes : List Byte) : Answered s (carryTuneData bytes s) := by
  unfold carryTuneData
  split
  · exact answered_reject s _ _ _
  · split
    · exact answered_reject s _ _ _
    · exact .changed hs (.loads rfl rfl (.stored _ _ bytes ‹_› (not_lt.mp ‹_›))) rfl

theorem answered_carryTuneAbort (tuneId : Nat) : Answered s (carryTuneAbort tuneId s) := by
  unfold carryTuneAbort
  split
  · exact answered_reject s _ _ _
  · obtain ⟨en, hen, hf⟩ := Library.entry_of_find ‹_›
    exact .changed hs (.loads rfl rfl (.ended _ en tuneId .aborted none hen
      (by simpa using (Bool.and_eq_true_iff.mp hf).1))) rfl

theorem answered_carryTuneRetire (tuneId : Nat) : Answered s (carryTuneRetire tuneId s) := by
  unfold carryTuneRetire
  split
  · exact answered_reject s _ _ _
  · split
    · exact answered_reject s _ _ _
    · exact .changed hs (.loads rfl rfl (.retired _ ‹_›)) rfl

theorem answered_carryItemPut (index : Nat) (item : ItemArg) : Answered s (carryItemPut index item s) := by
  refine answered_tested _ _ (fun ht => ?_)
  unfold itemPutTest at ht
  split at ht
  · cases ht
  · split at ht
    · cases ht
    · exact .changed hs (.lists rfl rfl (.put index item s.clock (not_lt.mp ‹_›) (not_le.mp ‹_›)
        (Option.map_eq_none_iff.mp ht))) rfl

theorem answered_carryItemReplace (index : Nat) (item : ItemArg) : Answered s (carryItemReplace index item s) := by
  refine answered_tested _ _ (fun ht => ?_)
  unfold itemReplaceTest at ht
  split at ht
  · cases ht
  · split at ht
    · cases ht
    · exact .changed hs (.lists rfl rfl (.replaced index item s.clock (Option.map_eq_none_iff.mp ht))) rfl

theorem answered_carryItemRemove (index : Nat) : Answered s (carryItemRemove index s) := by
  refine answered_tested _ _ (fun ht => ?_)
  unfold itemRemoveTest at ht
  split at ht
  · cases ht
  · split at ht
    · cases ht
    · rename_i hi hp
      refine .changed hs (.lists rfl rfl (.removed index (not_le.mp hi) fun hc => ?_)) rfl
      by_contra hne
      exact hp (by simp [State.playingIndex, hc, hne])

theorem answered_carryMatchPut (mode mergeWindow : Nat) : Answered s (carryMatchPut mode mergeWindow s) := by
  unfold carryMatchPut
  split
  · exact answered_reject s _ _ _
  · exact .played hs ((played_putMatch s _ _).trans (SameTables.played ⟨rfl, rfl, rfl⟩)) rfl

theorem answered_carryStopItem : Answered s (carryStopItem s) := by
  unfold carryStopItem
  split
  · exact answered_reject s _ _ _
  · exact answered_act_reply hs (playsOn_pressStop _ _) _ _

theorem answered_carryStopsApply (registration : Nat) : Answered s (carryStopsApply registration s) := by
  unfold carryStopsApply
  split
  · exact answered_reject s _ _ _
  · split
    · exact answered_reject s _ _ _
    · exact answered_act_reply hs (playsOn_requestApply _ _ _ _) _ _

theorem answered_releaseSlot (slot : Option Nat) : Answered s (s.releaseSlot slot) := by
  unfold State.releaseSlot
  split
  · exact answered_reject s _ _ _
  · exact answered_act_reply hs (.of_core (retire_core _ _ _)) _ _

theorem answered_carryKeyRelease (which : KeyRef) : Answered s (carryKeyRelease which s) := by
  unfold carryKeyRelease
  split
  · split
    · exact answered_reject s _ _ _
    · exact answered_releaseSlot hs _
  · split
    · exact answered_reject s _ _ _
    · exact answered_releaseSlot hs _
  · exact answered_reject s _ _ _

omit hs in
theorem answered_carryKeyLookup (which : KeyRef) : Answered s (carryKeyLookup which s) := by
  unfold carryKeyLookup State.answerLookup
  repeat' split
  all_goals exact .same ⟨rfl, rfl, rfl⟩ (fun _ => rfl)

omit hs in
theorem answered_replyClosing (code : Nat) (body : List Byte) : Answered s (s.replyClosing code body) := by
  unfold State.replyClosing
  split <;> exact .same ⟨rfl, rfl, rfl⟩ (fun _ => rfl)

omit hs in
theorem answered_takeSurvey : Answered s s.takeSurvey := by
  unfold State.takeSurvey
  split
  · exact .same ⟨rfl, rfl, rfl⟩ (fun _ => rfl)
  · split <;> exact .same ⟨rfl, rfl, rfl⟩ (fun _ => rfl)

/-- What carrying a request out on a free link does to the tables. -/
theorem answered_carryOut (c : Instr) : Answered s (carryOut c s) := by
  cases c with
  | tuneOpen tuneId length => exact answered_carryTuneOpen hs tuneId length
  | tuneData bytes => exact answered_carryTuneData hs bytes
  | tuneAbort tuneId => exact answered_carryTuneAbort hs tuneId
  | tuneRetire tuneId => exact answered_carryTuneRetire hs tuneId
  | itemPut index item => exact answered_carryItemPut hs index item
  | itemReplace index item => exact answered_carryItemReplace hs index item
  | itemRemove index => exact answered_carryItemRemove hs index
  | micPut channel params =>
    simp only [carryOut, carryMicPut]
    refine answered_tested _ _ (fun _ => ?_)
    exact .played hs ((played_setListening s _).trans (SameTables.played ⟨rfl, rfl, rfl⟩)) rfl
  | matchPut mode mergeWindow => exact answered_carryMatchPut hs mode mergeWindow
  | trackPut params => exact answered_act_reply hs (playsOn_putTrack _ _ params) _ _
  | play index startMode => exact answered_carryPlay hs index startMode
  | stopItem => exact answered_carryStopItem hs
  | cancelAll => exact answered_act_reply hs (playsOn_cancelAll _ _) _ _
  | readerPut horizon => exact answered_act_reply hs (playsOn_putHorizon _ _ horizon) _ _
  | keyRelease which => exact answered_carryKeyRelease hs which
  | keyLookup which => exact answered_carryKeyLookup which
  | stopsApply registration => exact answered_carryStopsApply hs registration
  | divisionPut | divisionClear =>
    simp only [carryOut, carryDivisionPut, carryDivisionClear]
    refine answered_tested _ _ (fun _ => Answered.trans ?_ (answered_replyClosing _ _))
    exact .same ⟨rfl, rfl, rfl⟩ id
  | survey => exact answered_tested _ _ (fun _ => answered_takeSurvey)
  | eventsAck | eventsMask | eventsForce | regPut | keySound =>
    simp only [carryOut, carryEventsAck, carryEventsMask, carryEventsForce, carryRegPut, carryKeySound]
    refine answered_tested _ _ (fun _ => ?_)
    exact .same ⟨rfl, rfl, rfl⟩ (fun _ => rfl)
  | countersRead | organPut | divisionQuery | tuneQuery | itemQuery | regQuery | micQuery | trackQuery | keyList
  | keyHold | stopsQuery | swellPut =>
    simp only [carryOut, carryCountersRead, carryOrganPut, carryDivisionQuery, carryTuneQuery, carryItemQuery,
      carryRegQuery, carryMicQuery, carryTrackQuery, carryKeyList, carryKeyHold, carryStopsQuery, carrySwellPut]
    repeat' split
    all_goals exact .same ⟨rfl, rfl, rfl⟩ (fun _ => rfl)
  | status | reset | eventsRead | countersClear | loadResult => exact .same ⟨rfl, rfl, rfl⟩ (fun _ => rfl)
  | _ => exact .refl s

end

/-! ### The line -/

theorem answered_whileBusy (s : State) (a : Answer) (counts : Bool) : Answered s (s.whileBusy a counts) := by
  unfold State.whileBusy
  split
  · exact .same ⟨rfl, rfl, rfl⟩ id
  · cases counts <;> exact .same ⟨rfl, rfl, rfl⟩ id

theorem answered_hunt (s : State) : Answered s s.hunt := .same ⟨rfl, rfl, rfl⟩ id

theorem answered_refuseFrame (s : State) (code : Nat) (r : Reason) (d : Nat) :
    Answered s (s.refuseFrame code r d) := by
  unfold State.refuseFrame
  simp only
  split
  · exact (answered_hunt s).trans (answered_whileBusy _ _ _)
  · split <;> exact .same ⟨rfl, rfl, rfl⟩ (fun _ => rfl)

theorem answered_acceptFrame (s : State) (code : Nat) (c : Instr) : Answered s (s.acceptFrame code (carryOut c)) := by
  unfold State.acceptFrame
  split
  · exact (answered_hunt s).trans (answered_whileBusy _ _ _)
  · rename_i hb
    exact (answered_hunt s).trans (answered_carryOut (s := s.hunt) (Bool.eq_false_iff.mpr hb) c)

theorem answered_takeFrame (s : State) (f : RawFrame) : Answered s (s.takeFrame f) := by
  unfold State.takeFrame
  split
  · exact answered_refuseFrame s _ _ _
  · exact answered_acceptFrame s _ _
  · exact .refl s

theorem answered_receive (s : State) (b : Byte) : Answered s (s.receive b) := by
  unfold State.receive
  split
  · split <;> exact .same ⟨rfl, rfl, rfl⟩ id
  · unfold State.lengthByte
    split
    · exact .same ⟨rfl, rfl, rfl⟩ id
    · exact answered_refuseFrame s _ _ _
  · exact .same ⟨rfl, rfl, rfl⟩ id
  · exact answered_takeFrame s _

theorem answered_receiveAll (bs : List Byte) (s : State) : Answered s (State.receiveAll bs s) :=
  State.receiveAll_induct (P := Answered s) (fun b t h => h.trans (answered_receive t b)) bs (.refl s)

theorem answered_arrive {complete : State → State} (h : ∀ s, Answered s (complete s)) (s : State) (f : RawFrame) :
    Answered s (s.arrive f complete) := by
  unfold State.arrive
  split
  · exact h s
  · exact answered_receiveAll _ s

theorem answered_request (s : State) (c : Instr) : Answered s (s.request c (carryOut c)) := by
  unfold State.request
  split
  · exact .refl s
  · split
    · exact .refl s
    · exact answered_arrive (fun t => answered_acceptFrame t _ c) s _

/-! ### Events and resets -/

theorem changes_sent (s : State) (rateHigh : Bool) : Changes s (s.sent rateHigh) := by
  unfold State.sent
  split
  · exact (SameTables.refl s).changes
  · split
    · exact .preparedReset rfl rfl rfl
    · split <;> exact SameTables.changes ⟨rfl, rfl, rfl⟩

/-- A command answers with a next state whose tables come by one change. -/
def ChangesTables (c : Instr) (s : State) : Prop := ∃ t, exec c s = .next t ∧ Changes s t

theorem changesTables_request {c : Instr} {code : Nat} {body : List Byte} (h : writeRequest c = some (code, body))
    (s : State) : ChangesTables c s :=
  ⟨_, exec_request h s, (answered_request s c).changes⟩

section
variable {c : Instr} {s : State}

theorem changesTables_event {f : State → State} (hc : exec c s = .next (s.event f)) (h : Changes s (f s)) :
    ChangesTables c s := by
  refine ⟨_, hc, ?_⟩
  unfold State.event
  split
  · exact (SameTables.refl s).changes
  · exact h

theorem changesTables_same {f : State → State} (hc : exec c s = .next (s.event f)) (h : SameTables s (f s)) :
    ChangesTables c s :=
  changesTables_event hc h.changes

/-- An event with one guard. -/
theorem changesTables_guarded {b : State → Prop} [DecidablePred b] {f : State → State}
    (hc : exec c s = .next (s.event (fun s => if b s then f s else s))) (h : Played s (f s)) : ChangesTables c s := by
  refine changesTables_event hc ?_
  show Changes s (if b s then f s else s)
  split
  · exact .plays h
  · exact (SameTables.refl s).changes

theorem changesTables_act {f : Env → Play → Play} (hc : exec c s = .next (s.event (fun s => s.act f)))
    (h : PlaysOn s.toEnv s.play (f s.toEnv s.play)) : ChangesTables c s :=
  changesTables_event hc (.plays (played_act h))

/-- An event that only goes on with playing when its guard holds. -/
theorem playsOn_guarded {e : Env} {p q : Play} {b : Bool} (h : PlaysOn e p q) : PlaysOn e p (if b then q else p) := by
  cases b
  · exact .refl e p
  · exact h

end

theorem changesTables_validationSuccess (s : State) : ChangesTables .validationSuccess s := by
  refine changesTables_event rfl ?_
  split
  · exact (SameTables.refl s).changes
  · rename_i n en hv
    split
    · exact .loads rfl rfl (.succeeded n en _ _ hv ‹_›)
    · exact (SameTables.refl s).changes

/-- The entry whose walk runs is VALIDATING. -/
theorem Library.validating_some {l : Library} {n : Nat} {en : Entry} (h : l.validating = some (n, en)) :
    l.entry n = some en ∧ en.state = .validating := by
  obtain ⟨m, hm, h⟩ := Option.bind_eq_some_iff.mp h
  obtain ⟨en', hen, h⟩ := Option.map_eq_some_iff.mp h
  cases h
  obtain ⟨en', hen', hf⟩ := Library.entry_of_find hm
  rw [hen] at hen'
  cases hen'
  exact ⟨hen, by simpa using hf⟩

/-- The entry that TUNE DATA goes to is LOADING. -/
theorem Library.loading_some {l : Library} {n : Nat} {en : Entry} (h : l.loading = some (n, en)) :
    l.entry n = some en ∧ en.state = .loading := by
  obtain ⟨m, hm, h⟩ := Option.bind_eq_some_iff.mp h
  obtain ⟨en', hen, h⟩ := Option.map_eq_some_iff.mp h
  cases h
  obtain ⟨en', hen', hf⟩ := Library.entry_of_find hm
  rw [hen] at hen'
  cases hen'
  exact ⟨hen, by simpa using hf⟩

theorem changesTables_validationFailure (s : State) : ChangesTables .validationFailure s := by
  refine changesTables_event rfl ?_
  split
  · exact (SameTables.refl s).changes
  · rename_i n en hv
    obtain ⟨hn, hr⟩ := Library.validating_some hv
    split
    · exact (SameTables.refl s).changes
    · exact .loads rfl rfl (.ended n en _ _ _ hn (by rw [hr]; decide))

/-- What every command does to the tables. -/
theorem changesTables (c : Instr) (s : State) : ChangesTables c s := by
  cases c with
  | powerReset => exact ⟨_, rfl, .powerReset rfl rfl rfl⟩
  | pinReset => exact ⟨_, rfl, .preparedReset rfl rfl rfl⟩
  | resetEnd r =>
    refine ⟨_, rfl, SameTables.changes ?_⟩
    split <;> exact ⟨rfl, rfl, rfl⟩
  | partialFrameByte c =>
    refine changesTables_event rfl ?_
    unfold State.receiveCharacter
    split
    · exact (answered_receive s _).changes
    · exact (SameTables.refl s).changes
  | frameRejected f =>
    refine changesTables_event rfl ?_
    split
    · exact (answered_arrive (fun t => answered_refuseFrame t _ _ _) s f).changes
    · exact (SameTables.refl s).changes
  | frameWhileBusy f =>
    refine changesTables_event rfl ?_
    split
    · exact (answered_arrive (fun t => answered_takeFrame t f) s f).changes
    · exact (SameTables.refl s).changes
  | answerSent r => exact changesTables_event rfl (changes_sent s r)
  | closingSequenceComplete => exact changesTables_same rfl (sameTables_closingDone s)
  | resetClearingShiftComplete => exact changesTables_same rfl (sameTables_resetShiftDone s)
  | scanComplete returned sense =>
    refine changesTables_event rfl ?_
    split
    · exact .plays (played_completeScan s _ _ _)
    · exact (SameTables.refl s).changes
  | validationSuccess => exact changesTables_validationSuccess s
  | validationFailure => exact changesTables_validationFailure s
  | samplePairComplete input low high =>
    refine changesTables_event rfl ?_
    split
    · exact .plays (played_takePair s _ _ _ _)
    · exact (SameTables.refl s).changes
  | inputLost input =>
    refine changesTables_guarded rfl ?_
    exact (played_setListening _ _).after ⟨rfl, rfl, rfl⟩
  | frameGapExpiry | surveyReturn | surveyNoReturn | scanStart | lastOnsetExpiry | lastReleaseExpiry
  | applyTickExpiry | swellUpdate | swellPeriodStart =>
    exact changesTables_guarded rfl (SameTables.played ⟨rfl, rfl, rfl⟩)
  | matchedTimeExpiry i => exact changesTables_same rfl ⟨rfl, rfl, forgetMatchedTime_core _ i _⟩
  | lastMatchedAnchorExpiry =>
    exact changesTables_guarded rfl ⟨rfl, rfl, .move (.reference s.play.tracker.refTime s.play.tracker.refPos
      s.play.tracker.fermata s.play.tracker.fermataAt none) rfl⟩
  | referenceTimeExpiry =>
    exact changesTables_guarded rfl ⟨rfl, rfl, .move (.reference none s.play.tracker.refPos
      s.play.tracker.fermata s.play.tracker.fermataAt s.play.tracker.lastAnchor) rfl⟩
  | lastCueExpiry =>
    exact changesTables_guarded rfl ⟨rfl, rfl, .move (.readerMarks s.play.reader.schedAt s.play.reader.wait
      s.play.reader.cause none s.play.reader.cueGo s.play.reader.cueHold s.play.reader.cueStop) rfl⟩
  | cueContactClosed b => exact changesTables_event rfl (.plays ⟨rfl, rfl, playsOn_setCue _ _ b _⟩)
  | cueContactOpened b => exact changesTables_event rfl (.plays ⟨rfl, rfl, playsOn_setCue _ _ b _⟩)
  | candidateExpiry c => exact changesTables_act rfl (.of_core (expireCandidate_core _ _ c))
  | windowCloseExpiry => exact changesTables_act rfl (playsOn_takeWindowClose _ _)
  | rebase => exact changesTables_act rfl (playsOn_guarded (playsOn_rebaseNow _ _))
  | fermataExpiry => exact changesTables_act rfl (playsOn_takeFermata _ _)
  | maximumEndExpiry => exact changesTables_act rfl (playsOn_guarded (playsOn_endHold _ _))
  | gapEnd => exact changesTables_act rfl (playsOn_guarded (playsOn_startSection _ _))
  | schedulingExpiry => exact changesTables_act rfl (playsOn_schedule _ _)
  | cueDebounceExpiry b => exact changesTables_act rfl (playsOn_debounce _ _ b)
  | onTimeExpiry i => exact changesTables_act rfl (.of_core (takeOnTime_core _ i _))
  | offTimeExpiry i => exact changesTables_act rfl (.of_core (takeOffTime_core _ i _))
  | deadlineExpiry i => exact changesTables_act rfl (.of_core (takeDeadline_core _ i _))
  | pulseEndExpiry d i => exact changesTables_act rfl (.of_core (endPulse_core _ i _ d))
  | stopTimeoutExpiry d i => exact changesTables_act rfl (playsOn_timeOutStop _ _ d i)
  | _ => exact changesTables_request rfl s

theorem changes_idle (s : State) : Changes s s.idle := by
  unfold State.idle
  split
  · exact (SameTables.refl s).changes
  · split
    · exact .plays (played_act (.refl _ _))
    · split <;> exact SameTables.changes ⟨rfl, rfl, rfl⟩

/-- What a step does to the tables: the one inversion of the step that O15 to O17 rest on. -/
theorem step_changes {s t : State} (h : step s = .next t) : Changes s t := by
  cases hp : s.pending with
  | nil =>
    simp only [step, hp] at h
    cases h
    exact changes_idle s
  | cons c rest =>
    rw [step_cons c rest s hp] at h
    obtain ⟨u, hu, hc⟩ := changesTables c { s with pending := rest }
    rw [hu] at h
    cases h
    exact Changes.framed (t := { s with pending := rest }) ⟨rfl, rfl, rfl⟩ hc (.refl _)

end Sys2Proof.Machine
end

section
/-! PROOF (O16). The service list with its cursor, and the tune in use: kept by every move of playing, and by every
other change of a step. -/

namespace Sys2Proof.Machine

/-! ### The cursor (R52, R53) -/

/-- R53: the cursor marks an item of the list, and is present while the reader is not IDLE. -/
def CursorOk (items : List Item) (p : Play) : Prop :=
  (∀ c, p.cursor = some c → c < items.length) ∧ (p.reader.flow ≠ .idle → p.cursor.isSome = true)

theorem CursorOk.of_core {items : List Item} {p q : Play} (h : CursorOk items p) (hc : q.core = p.core) :
    CursorOk items q := by
  have : CursorOk items p.core := h
  rw [← hc] at this
  exact this

/-- An invariant that a play's core decides, and that every move keeps, is kept by playing on. -/
theorem PlaysOn.keeps {e : Env} {p q : Play} {I : Play → Prop} (h : PlaysOn e p q) (core : ∀ r : Play, I r.core ↔ I r)
    (move : ∀ r r', Move e.library e.items r r' → I r → I r') (hp : I p) : I q := by
  have : ∀ r, Relation.ReflTransGen (Move e.library e.items) p.core r → I r := by
    intro r hr
    induction hr with
    | refl => exact (core p).mpr hp
    | tail _ hm ih => exact move _ _ hm ih
  exact (core q).mp (this q.core h)

/-- A section of the plan is in hand only while there is a plan. -/
theorem plan_of_section {rd : Reader} {sec : Section} (h : rd.section = some sec) : rd.plan.isSome = true := by
  unfold Reader.section at h
  split at h
  · rename_i hp _
    rw [hp]
    rfl
  · cases h

theorem flow_ne_idle_of_inSection {rd : Reader} (h : rd.inSection = true) : rd.flow ≠ .idle := by
  intro hf
  simp [Reader.inSection, hf] at h

theorem cursorOk_move {l : Library} {items : List Item} {p q : Play} (h : Move l items p q) (hp : CursorOk items p) :
    CursorOk items q := by
  obtain ⟨hlt, hsome⟩ := hp
  cases h with
  | eventScheduled k total hr hc hu => exact ⟨hlt, fun _ => hc⟩
  | sectionStart e tag first evs sec hs hc hu => exact ⟨hlt, fun _ => hc⟩
  | gap t h => exact ⟨hlt, fun _ => hsome (by rw [h]; decide)⟩
  | itemTakenUp i n item en tune flow inHand hidle hi hn hr ht hgo =>
    refine ⟨fun c hc => ?_, fun _ => rfl⟩
    cases hc
    exact (List.getElem?_eq_some_iff.mp hi).1
  | firstSection h => exact ⟨hlt, fun _ => hsome (by rw [h]; decide)⟩
  | nextSection h => exact ⟨hlt, fun _ => hsome (flow_ne_idle_of_inSection h)⟩
  | itemEnd cause => exact ⟨hlt, fun h => absurd rfl h⟩
  | cursor c hidle hc => exact ⟨hc, fun h => absurd hidle h⟩
  | _ => exact ⟨hlt, hsome⟩

/-! ### The items (R50, R54) -/

theorem inRange_iff {lo hi n : Nat} : inRange lo hi n = true ↔ lo ≤ n ∧ n ≤ hi := by
  simp [inRange]

/-- A gap as stored lies within R50's range. -/
theorem clampOr_le {dflt lo hi : Nat} (h : dflt ≤ hi) (hlo : lo ≤ hi) (o : Option Nat) : clampOr dflt lo hi o ≤ hi := by
  cases o with
  | none => exact h
  | some n => simp [clampOr, clamp, hlo]

/-- R54.3: no field is outside its range. -/
theorem itemRangeFailures_nil {a : ItemArg} (h : itemRangeFailures a = []) :
    (1 ≤ a.tuneId ∧ a.tuneId ≤ 65534) ∧ (1 ≤ a.verseCount ∧ a.verseCount ≤ 12) ∧ a.giveOutMode ≤ 3 ∧
    (∀ r, a.giveOutReg = some r → r ≤ 31) ∧ (∀ r ∈ a.verseRegs, r ≤ 31) := by
  simp only [itemRangeFailures, List.append_eq_nil_iff, ite_eq_left_iff, ite_eq_right_iff, List.cons_ne_nil, imp_false,
    not_not, Bool.not_eq_true, inRange_iff] at h
  obtain ⟨⟨⟨⟨⟨⟨htune, hverses⟩, hmode⟩, hreg⟩, hregs⟩, -⟩, -⟩ := h
  refine ⟨htune, hverses, by omega, fun r hr => ?_, fun r hr => ?_⟩
  · simpa [hr] using hreg
  · simpa using List.any_eq_false.mp hregs r hr

/-- R54: an item whose fields pass is stored within R50's ranges. -/
theorem itemOk_storedItem {now : Tick} {a : ItemArg} (h : itemFieldTest now a = none) : ItemOk (storedItem a) := by
  unfold itemFieldTest at h
  split at h
  · cases h
  · rename_i hf
    split at h
    · cases h
    · rename_i hlen
      split at h
      · cases h
      · rename_i hreg
        obtain ⟨⟨ht1, ht2⟩, ⟨hv1, hv2⟩, hmode, hgive, hregs⟩ := itemRangeFailures_nil (not_not.mp hf)
        have hlen : a.verseRegs.length = a.verseCount := not_not.mp hlen
        refine ⟨ht1, ht2, ?_, ?_, hregs, fun r hr => ?_, ?_, clampOr_le (by decide) (by decide) _,
          clampOr_le (by decide) (by decide) _⟩
        · exact hlen ▸ hv1
        · exact hlen ▸ hv2
        · simp only [storedItem] at hr
          split at hr
          · cases hr
          · exact hgive r hr
        · have hsome : a.giveOutMode ≠ 0 → a.giveOutReg ≠ none := fun h0 hn => hreg ⟨h0, by rw [hn]; rfl⟩
          simp only [storedItem]
          interval_cases a.giveOutMode <;> simp_all [giveOutOf]

theorem forall_mem_insertIdx {α : Type} {P : α → Prop} {l : List α} {a : α} (hl : ∀ x ∈ l, P x) (ha : P a) (i : Nat) :
    ∀ x ∈ l.insertIdx i a, P x := by
  intro x hx
  obtain rfl | hx := List.eq_or_mem_of_mem_insertIdx hx
  · exact ha
  · exact hl x hx

theorem forall_mem_set {α : Type} {P : α → Prop} {l : List α} {a : α} (hl : ∀ x ∈ l, P x) (ha : P a) (i : Nat) :
    ∀ x ∈ l.set i a, P x := by
  intro x hx
  obtain hx | rfl := List.mem_or_eq_of_mem_set hx
  · exact hl x hx
  · exact ha

/-- R57: after a removal the cursor marks an item of the shorter list. -/
theorem cursorAfterRemove_lt {i c left : Nat} {o : Option Nat} (ho : ∀ c, o = some c → c < left + 1)
    (h : cursorAfterRemove i left o = some c) (hi : i < left + 1) : c < left := by
  unfold cursorAfterRemove at h
  split at h
  · cases h
  · rename_i d
    have hd := ho d rfl
    split at h
    · cases h; omega
    · split at h
      · cases h; omega
      · split at h
        · cases h; omega
        · cases h

/-- The cursor stays present when the item it marks stays. -/
theorem cursorAfterRemove_isSome {i left : Nat} {o : Option Nat} (ho : o.isSome = true) (hne : o ≠ some i) :
    (cursorAfterRemove i left o).isSome = true := by
  obtain ⟨c, rfl⟩ := Option.isSome_iff_exists.mp ho
  have : c ≠ i := fun h => hne (by rw [h])
  simp only [cursorAfterRemove]
  split
  · rfl
  · rw [if_pos (by omega)]
    rfl

/-- R55 to R57: every change of the list keeps it and its cursor. -/
theorem serviceList_move {items items' : List Item} {c : Option Nat} {p : Play} (h : ItemsMove items p items' c)
    (hlen : items.length ≤ 24) (hok : ∀ it ∈ items, ItemOk it) (hc : CursorOk items p) :
    items'.length ≤ 24 ∧ (∀ it ∈ items', ItemOk it) ∧ CursorOk items' { p with cursor := c } := by
  obtain ⟨hlt, hsome⟩ := hc
  cases h with
  | put i a now hi hl ha =>
    rw [CursorOk, List.length_insertIdx_of_le_length hi]
    refine ⟨hl, forall_mem_insertIdx hok (itemOk_storedItem ha) i, fun c hc => ?_, fun hf => ?_⟩
    · obtain ⟨d, hd, rfl⟩ := Option.map_eq_some_iff.mp hc
      have := hlt d hd
      split <;> omega
    · simpa [cursorAfterInsert] using hsome hf
  | replaced i a now ha =>
    rw [CursorOk, List.length_set]
    exact ⟨hlen, forall_mem_set hok (itemOk_storedItem ha) i, hlt, hsome⟩
  | removed i hi hp =>
    have hshort : (items.eraseIdx i).length + 1 = items.length := by
      rw [List.length_eraseIdx_of_lt hi]
      omega
    refine ⟨by omega, fun it hit => hok it (List.mem_of_mem_eraseIdx hit), fun c hc => ?_, fun hf => ?_⟩
    · exact cursorAfterRemove_lt (by rwa [hshort]) hc (by omega)
    · exact cursorAfterRemove_isSome (hsome hf) (fun hi => hf (hp hi))

/-- R52, R53: every step keeps the service list and its cursor. -/
theorem serviceOk_step {s t : State} (hs : ServiceOk s) (h : step s = .next t) : ServiceOk t := by
  obtain ⟨hlen, hok, hcursor⟩ := hs
  have hcursor : CursorOk s.items s.play := hcursor
  suffices ht : t.items.length ≤ 24 ∧ (∀ it ∈ t.items, ItemOk it) ∧ CursorOk t.items t.play from ht
  cases step_changes h with
  | plays hp =>
    rw [hp.items]
    exact ⟨hlen, hok, hp.moves.keeps (fun _ => Iff.rfl) (fun _ _ => cursorOk_move) hcursor⟩
  | loads hi hp =>
    rw [hi]
    exact ⟨hlen, hok, hcursor.of_core hp⟩
  | lists hl hp hm =>
    obtain ⟨hlen', hok', hc'⟩ := serviceList_move hm hlen hok hcursor
    exact ⟨hlen', hok', hc'.of_core hp⟩
  | powerReset hl hi hp =>
    rw [hi]
    refine ⟨Nat.zero_le _, nofun, CursorOk.of_core (p := (State.powerUp 0).play) ⟨nofun, fun h => absurd rfl h⟩ hp⟩
  | preparedReset hl hi hp =>
    rw [hi]
    exact ⟨hlen, hok, CursorOk.of_core (p := Play.afterReset s.play.cursor .firstArrival 0 s.play.tracker.params
      s.play.reader.horizon []) ⟨hcursor.1, fun h => absurd rfl h⟩ hp⟩

/-! ### The tune in use (R47) -/

/-- R47: the entry that carries the IN_USE mark is READY, and one carries it while an item is taken up. -/
def MarkOk (l : Library) (p : Play) : Prop :=
  (∀ n, p.inUse = some n → ∃ en, l.entry n = some en ∧ en.state = .ready) ∧
  (p.reader.flow ≠ .idle → p.inUse.isSome = true)

theorem MarkOk.of_core {l : Library} {p q : Play} (h : MarkOk l p) (hc : q.core = p.core) : MarkOk l q := by
  have : MarkOk l p.core := h
  rw [← hc] at this
  exact this

theorem markOk_move {l : Library} {items : List Item} {p q : Play} (h : Move l items p q) (hp : MarkOk l p) :
    MarkOk l q := by
  obtain ⟨hready, hsome⟩ := hp
  cases h with
  | eventScheduled k total hr hc hu => exact ⟨hready, fun _ => hu⟩
  | sectionStart e tag first evs sec hs hc hu => exact ⟨hready, fun _ => hu⟩
  | gap t h => exact ⟨hready, fun _ => hsome (by rw [h]; decide)⟩
  | itemTakenUp i n item en tune flow inHand hidle hi hn hr ht hgo =>
    refine ⟨fun m hm => ?_, fun _ => rfl⟩
    cases hm
    exact ⟨en, hn, hr⟩
  | firstSection h => exact ⟨hready, fun _ => hsome (by rw [h]; decide)⟩
  | nextSection h => exact ⟨hready, fun _ => hsome (flow_ne_idle_of_inSection h)⟩
  | itemEnd cause => exact ⟨nofun, fun h => absurd rfl h⟩
  | cursor c hidle hc => exact ⟨hready, fun h => absurd hidle h⟩
  | _ => exact ⟨hready, hsome⟩

/-- An entry that is written, and the others. -/
theorem Library.entry_setEntry (l : Library) (n m : Nat) (o : Option Entry) :
    (l.setEntry n o).entry m = if n = m ∧ n < l.entries.length then o else l.entry m := by
  simp only [Library.entry, Library.setEntry, List.getElem?_set]
  by_cases h : n = m
  · subst h
    by_cases hl : n < l.entries.length <;> simp [hl]
  · simp [h]

theorem Library.entry_setEntry_other (l : Library) {n m : Nat} (o : Option Entry) (h : n ≠ m) :
    (l.setEntry n o).entry m = l.entry m := by
  rw [Library.entry_setEntry, if_neg (fun hc => h hc.1)]

/-- An entry there is has a place in the directory. -/
theorem Library.lt_of_entry {l : Library} {n : Nat} {en : Entry} (h : l.entry n = some en) : n < l.entries.length :=
  (List.getElem?_eq_some_iff.mp (Option.join_eq_some_iff.mp h)).1

/-- The directory without a FREE entry has none at the place that TUNE OPEN would take (R34). -/
theorem Library.entry_freeEntry {l : Library} {n : Nat} (h : l.freeEntry = some n) :
    n < l.entries.length ∧ l.entry n = none := by
  obtain ⟨hn, hf, -⟩ := List.findIdx?_eq_some_iff_getElem.mp h
  exact ⟨hn, by simp [Library.entry, List.getElem?_eq_getElem hn, Option.isNone_iff_eq_none.mp hf]⟩

/-- R33: a TUNE OPEN whose tests pass. -/
theorem tuneOpenTest_none {l : Library} {id length : Nat} (h : tuneOpenTest l id length = none) :
    (1 ≤ id ∧ id ≤ 65534 ∧ 22 ≤ length ∧ length ≤ 19472) ∧ l.find (fun en => decide (en.tuneId = id)) = none ∧
    l.openLoad = none ∧ (∃ n, l.freeEntry = some n) ∧ blocksFor length ≤ l.freeBlocks.length := by
  unfold tuneOpenTest at h
  repeat' split at h
  all_goals cases h
  rename_i h1 h2 h3 h4 h5
  simp only [Option.not_isSome_iff_eq_none] at h2 h3
  exact ⟨by omega, h2, h3, Option.ne_none_iff_exists'.mp (by simpa using h4), not_lt.mp h5⟩

/-- R47: no change of the library but a TUNE RETIRE touches a READY entry, and that is refused for the one in use. -/
theorem entry_libraryMove {l l' : Library} {inUse : Option Nat} {n : Nat} {en : Entry}
    (h : LibraryMove l inUse l') (hu : inUse = some n) (hn : l.entry n = some en) (hr : en.state = .ready) :
    ∃ en', l'.entry n = some en' ∧ en'.state = .ready := by
  have other : ∀ (k : Library) (m : Nat) (x : Entry) (o : Option Entry), k.entries = l.entries →
      l.entry m = some x → x.state ≠ .ready → (k.setEntry m o).entry n = some en := by
    intro k m x o hk hm hx
    have hne : m ≠ n := by
      rintro rfl
      rw [hn] at hm
      cases hm
      exact hx hr
    rw [Library.entry_setEntry_other k o hne, ← hn]
    exact congrArg (fun es => (es[n]?).join) hk
  cases h with
  | opened tuneId length ht =>
    obtain ⟨m, hm⟩ := (tuneOpenTest_none ht).2.2.2.1
    refine ⟨en, ?_, hr⟩
    rw [Library.openTune, hm, Library.entry_setEntry_other, hn]
    rintro rfl
    rw [Option.getD_some, (Library.entry_freeEntry hm).2] at hn
    cases hn
  | stored m x bytes hl hb =>
    obtain ⟨hm, hx⟩ := Library.loading_some hl
    exact ⟨en, other _ m x _ rfl hm (by rw [hx]; decide), hr⟩
  | succeeded m x d lineEnd hv _ =>
    obtain ⟨hm, hx⟩ := Library.validating_some hv
    exact ⟨en, other _ m x _ rfl hm (by rw [hx]; decide), hr⟩
  | ended m x tuneId outcome event hm hx => exact ⟨en, other _ m x _ rfl hm hx, hr⟩
  | retired m hm =>
    refine ⟨en, ?_, hr⟩
    rw [Library.entry_setEntry_other l none (fun h => hm (by rw [hu, h])), hn]

/-- R47: every step keeps the tune of the item taken up READY. -/
theorem inUseOk_step {s t : State} (hs : InUseOk s) (h : step s = .next t) : InUseOk t := by
  have hs : MarkOk s.library s.play := hs
  suffices ht : MarkOk t.library t.play from ht
  cases step_changes h with
  | plays hp =>
    rw [hp.library]
    exact hp.moves.keeps (fun _ => Iff.rfl) (fun _ _ => markOk_move) hs
  | loads hi hp hm =>
    refine MarkOk.of_core (p := s.play) ⟨fun n hn => ?_, hs.2⟩ hp
    obtain ⟨en, hen, hr⟩ := hs.1 n hn
    exact entry_libraryMove hm hn hen hr
  | lists hl hp =>
    rw [hl]
    exact MarkOk.of_core (p := { s.play with cursor := t.play.cursor }) hs hp
  | powerReset hl hi hp => exact MarkOk.of_core (p := (State.powerUp 0).play) ⟨nofun, fun h => absurd rfl h⟩ hp
  | preparedReset hl hi hp =>
    exact MarkOk.of_core (p := Play.afterReset s.play.cursor .firstArrival 0 s.play.tracker.params
      s.play.reader.horizon []) ⟨nofun, fun h => absurd rfl h⟩ hp

/-- Settles O16: every move of playing, change of the list and change of the library keeps the two invariants. -/
theorem stepKeepsServiceListAndTune : Obligations.StepKeepsServiceListAndTune :=
  ⟨fun _ _ => serviceOk_step, fun _ _ => inUseOk_step⟩

end Sys2Proof.Machine
end

section
/-! PROOF (O15). The directory and the block storage (R27 to R29): the entries held, and what freeing, making and
replacing one of them keeps. -/

namespace Sys2Proof.Machine

/-! ### The entries held -/

/-- The entries that are not FREE. -/
def Library.held (l : Library) : List Entry := l.entries.filterMap id

/-- The entries that are not FREE, but for the one at a place. -/
def Library.others (l : Library) (n : Nat) : List Entry := (l.entries.eraseIdx n).filterMap id

/-- R27 to R29 of the entries held: each in form, no block or tune id held twice, one load at a time. -/
def HeldOk (es : List Entry) : Prop :=
  (∀ en ∈ es, EntryOk en) ∧ (es.flatMap (·.blocks)).Nodup ∧ (es.map (·.tuneId)).Nodup ∧
  es.countP (fun en => decide (en.state ≠ .ready)) ≤ 1

theorem Library.owned_eq (l : Library) : l.owned = l.held.flatMap (·.blocks) := by
  rw [Library.owned, Library.held]
  induction l.entries with
  | nil => rfl
  | cons o os ih => cases o <;> simp [ih]

theorem libraryOk_iff {l : Library} : LibraryOk l ↔ l.entries.length = 48 ∧ HeldOk l.held := by
  rw [LibraryOk, Library.owned_eq]
  rfl

theorem HeldOk.perm {es es' : List Entry} (hp : es.Perm es') (h : HeldOk es) : HeldOk es' := by
  obtain ⟨hok, hblocks, hids, hload⟩ := h
  refine ⟨fun en hen => hok en (hp.mem_iff.mpr hen), (hp.flatMap_right _).nodup_iff.mp hblocks,
    (hp.map _).nodup_iff.mp hids, ?_⟩
  rwa [← hp.countP_eq]

theorem HeldOk.sublist {es es' : List Entry} (hs : es'.Sublist es) (h : HeldOk es) : HeldOk es' := by
  obtain ⟨hok, hblocks, hids, hload⟩ := h
  exact ⟨fun en hen => hok en (hs.subset hen), hblocks.sublist (hs.flatMap _), hids.sublist (hs.map _),
    hs.countP_le.trans hload⟩

theorem heldOk_cons {en : Entry} {es : List Entry} : HeldOk (en :: es) ↔
    EntryOk en ∧ en.blocks.Nodup ∧ (∀ b ∈ en.blocks, ∀ x ∈ es, b ∉ x.blocks) ∧ (∀ x ∈ es, x.tuneId ≠ en.tuneId) ∧
    (en.state ≠ .ready → ∀ x ∈ es, x.state = .ready) ∧ HeldOk es := by
  have hload : (en :: es).countP (fun en => decide (en.state ≠ .ready)) ≤ 1 ↔
      (en.state ≠ .ready → ∀ x ∈ es, x.state = .ready) ∧
      es.countP (fun en => decide (en.state ≠ .ready)) ≤ 1 := by
    have hzero : es.countP (fun en => decide (en.state ≠ .ready)) = 0 ↔ ∀ x ∈ es, x.state = .ready := by
      simp [List.countP_eq_zero]
    rw [List.countP_cons, ← hzero]
    by_cases h : en.state = .ready
    · simp [h]
    · simp only [h, ne_eq, not_false_eq_true, decide_true, if_true, true_implies]
      omega
  have hdisjoint : en.blocks.Disjoint (es.flatMap (·.blocks)) ↔ ∀ b ∈ en.blocks, ∀ x ∈ es, b ∉ x.blocks := by
    simp only [List.disjoint_left, List.mem_flatMap, not_exists, not_and]
  have hids : en.tuneId ∉ es.map (·.tuneId) ↔ ∀ x ∈ es, x.tuneId ≠ en.tuneId := by
    simp only [List.mem_map, not_exists, not_and]
  rw [HeldOk, HeldOk, hload, List.flatMap_cons, List.nodup_append', hdisjoint, List.map_cons, List.nodup_cons, hids,
    List.forall_mem_cons]
  tauto

/-! ### One entry and the others -/

theorem filterMap_id_cons {α : Type} (o : Option α) (os : List (Option α)) :
    (o :: os).filterMap id = o.toList ++ os.filterMap id := by
  cases o <;> rfl

theorem Library.held_perm (l : Library) {n : Nat} (hn : n < l.entries.length) :
    l.held.Perm ((l.entry n).toList ++ l.others n) := by
  have hentry : l.entry n = l.entries[n] := by simp [Library.entry, List.getElem?_eq_getElem hn]
  have hp := (List.getElem_cons_eraseIdx_perm hn).symm.filterMap id
  rwa [filterMap_id_cons, ← hentry] at hp

theorem Library.held_setEntry (l : Library) {n : Nat} (hn : n < l.entries.length) (o : Option Entry) :
    (l.setEntry n o).held.Perm (o.toList ++ l.others n) := by
  have hp := (List.set_perm_cons_eraseIdx hn o).filterMap id
  rwa [filterMap_id_cons] at hp

theorem Library.mem_held {l : Library} {en : Entry} : en ∈ l.held ↔ ∃ n, l.entry n = some en := by
  rw [Library.held, List.mem_filterMap]
  simp only [id_eq, exists_eq_right, List.mem_iff_getElem?, Library.entry, Option.join_eq_some_iff]

section
variable {l : Library}

theorem libraryOk_setEntry {n : Nat} {o : Option Entry} (h : LibraryOk l) (hn : n < l.entries.length)
    (ho : HeldOk (o.toList ++ l.others n)) : LibraryOk (l.setEntry n o) := by
  rw [libraryOk_iff] at h ⊢
  refine ⟨?_, ho.perm (l.held_setEntry hn o).symm⟩
  rw [← h.1]
  exact List.length_set

theorem heldOk_others (h : LibraryOk l) (n : Nat) : HeldOk (l.others n) :=
  (libraryOk_iff.mp h).2.sublist ((List.eraseIdx_sublist _ _).filterMap id)

/-- The entry at a place and the others, as the directory's form gives them. -/
theorem heldOk_entry {n : Nat} {en : Entry} (h : LibraryOk l) (hn : l.entry n = some en) :
    HeldOk (en :: l.others n) := by
  have hp := l.held_perm (Library.lt_of_entry hn)
  rw [hn] at hp
  exact (libraryOk_iff.mp h).2.perm hp

theorem entryOk_of_entry {n : Nat} {en : Entry} (h : LibraryOk l) (hn : l.entry n = some en) : EntryOk en :=
  (heldOk_cons.mp (heldOk_entry h hn)).1

/-- R42, R44, R45: freeing an entry. -/
theorem libraryOk_free (h : LibraryOk l) (n : Nat) : LibraryOk (l.setEntry n none) := by
  by_cases hn : n < l.entries.length
  · exact libraryOk_setEntry h hn (heldOk_others h n)
  · have hset : (l.setEntry n none).entries = l.entries := List.set_eq_of_length_le (not_lt.mp hn)
    rw [libraryOk_iff] at h ⊢
    rwa [Library.held, hset]

/-- An entry goes on with the same blocks and the same tune id, and begins no load. -/
theorem libraryOk_replace {n : Nat} {en en' : Entry} (h : LibraryOk l) (hn : l.entry n = some en)
    (hok : EntryOk en') (hblocks : en'.blocks = en.blocks) (hid : en'.tuneId = en.tuneId)
    (hload : en'.state ≠ .ready → en.state ≠ .ready) : LibraryOk (l.setEntry n (some en')) := by
  refine libraryOk_setEntry h (Library.lt_of_entry hn) (heldOk_cons.mpr ?_)
  obtain ⟨-, hnodup, hdisjoint, hids, hothers, hrest⟩ := heldOk_cons.mp (heldOk_entry h hn)
  rw [hblocks, hid]
  exact ⟨hok, hnodup, hdisjoint, hids, fun h' => hothers (hload h'), hrest⟩

/-! ### TUNE OPEN (R33, R34) -/

theorem Library.find_eq_none {f : Entry → Bool} : l.find f = none ↔ ∀ n en, l.entry n = some en → f en = false := by
  rw [Library.find, List.findIdx?_eq_none_iff]
  constructor
  · intro h n en hn
    simpa using h (some en) (List.mem_of_getElem? (Option.join_eq_some_iff.mp hn))
  · intro h o ho
    obtain ⟨n, hn⟩ := List.getElem?_of_mem ho
    cases o with
    | none => rfl
    | some en => exact h n en (Option.join_eq_some_iff.mpr hn)

/-- A free block is one of the 256 that no entry owns. -/
theorem Library.mem_freeBlocks {b : Nat} : b ∈ l.freeBlocks ↔ b < 256 ∧ ∀ en ∈ l.held, b ∉ en.blocks := by
  simp [Library.freeBlocks, Library.owned_eq, Config.libraryBlocks]

theorem Library.nodup_freeBlocks : l.freeBlocks.Nodup := List.nodup_range.filter _

/-- Every entry but that of a FREE place is among the others. -/
theorem Library.mem_others_of_free {n : Nat} {en : Entry} (hn : n < l.entries.length) (hfree : l.entry n = none) :
    en ∈ l.others n ↔ en ∈ l.held := by
  rw [(l.held_perm hn).mem_iff, hfree]
  rfl

/-- R34: the entry that a TUNE OPEN makes. -/
theorem entryOk_openedEntry {id length : Nat} (hid : 1 ≤ id ∧ id ≤ 65534) (hlen : 22 ≤ length ∧ length ≤ 19472)
    (hblocks : blocksFor length ≤ l.freeBlocks.length) : EntryOk (openedEntry l id length) := by
  refine ⟨hid.1, hid.2, hlen.1, hlen.2, ?_, fun b hb => (Library.mem_freeBlocks.mp (List.mem_of_mem_take hb)).1,
    Nat.zero_le _, fun _ => by show 0 < length; omega, nofun, ?_⟩
  · simpa [openedEntry] using hblocks
  · simp [openedEntry]

theorem libraryOk_openTune {id length : Nat} (h : LibraryOk l) (ht : tuneOpenTest l id length = none) :
    LibraryOk (l.openTune (l.freeEntry.getD 0) id length) := by
  obtain ⟨⟨hid, hid', hlen, hlen'⟩, hunused, hidle, ⟨n, hn⟩, hblocks⟩ := tuneOpenTest_none ht
  obtain ⟨hlt, hfree⟩ := Library.entry_freeEntry hn
  have hheld : ∀ en ∈ l.others n, ∃ m, l.entry m = some en := fun en hen =>
    Library.mem_held.mp ((Library.mem_others_of_free hlt hfree).mp hen)
  rw [hn, Library.openTune]
  refine libraryOk_setEntry h hlt (heldOk_cons.mpr ⟨entryOk_openedEntry ⟨hid, hid'⟩ ⟨hlen, hlen'⟩ hblocks,
    Library.nodup_freeBlocks.sublist (List.take_sublist _ _), fun b hb en hen => ?_, fun en hen => ?_,
    fun _ en hen => ?_, heldOk_others h n⟩)
  · exact (Library.mem_freeBlocks.mp (List.mem_of_mem_take hb)).2 en ((Library.mem_others_of_free hlt hfree).mp hen)
  · obtain ⟨m, hm⟩ := hheld en hen
    exact of_decide_eq_false (Library.find_eq_none.mp hunused m en hm)
  · obtain ⟨m, hm⟩ := hheld en hen
    simpa using Library.find_eq_none.mp hidle m en hm

/-! ### TUNE DATA, validation and reset (R35, R41, R49) -/

/-- R35: an entry that has taken no more bytes than remained. -/
theorem entryOk_advance {en : Entry} {count : Nat} (h : EntryOk en) (hl : en.state = .loading)
    (hc : count ≤ en.length - en.cursor) : EntryOk (en.advance count) := by
  obtain ⟨hid, hid', hlen, hlen', hblocks, hrange, hcursor, -, -, hderived⟩ := h
  have hnone : en.derived.isSome ≠ true := fun hd => by simp [hl] at hderived; simp [hderived] at hd
  refine ⟨hid, hid', hlen, hlen', hblocks, hrange, ?_, ?_, ?_, ?_⟩ <;> simp only [Entry.advance]
  · omega
  · split
    · exact fun _ => ‹_›
    · nofun
  · split
    · nofun
    · exact fun _ => by omega
  · split <;> simpa using hnone

theorem entryOk_readied {en : Entry} (h : EntryOk en) (d : Derived) (lineEnd : Bool) :
    EntryOk (en.readied d lineEnd) := by
  obtain ⟨hid, hid', hlen, hlen', hblocks, hrange, hcursor, -, -, -⟩ := h
  exact ⟨hid, hid', hlen, hlen', hblocks, hrange, hcursor, nofun, nofun, by simp [Entry.readied]⟩

/-- R49: a reset keeps the READY entries. -/
theorem held_afterReset : l.afterReset.held = l.held.filter (fun en => decide (en.state = .ready)) := by
  simp only [Library.held, Library.afterReset]
  induction l.entries with
  | nil => rfl
  | cons o os ih =>
    rw [List.map_cons, filterMap_id_cons, filterMap_id_cons, ih, List.filter_append]
    cases o with
    | none => rfl
    | some en => by_cases hr : en.state = .ready <;> simp [hr]

theorem libraryOk_afterReset (h : LibraryOk l) : LibraryOk l.afterReset := by
  rw [libraryOk_iff] at h ⊢
  refine ⟨?_, ?_⟩
  · rw [← h.1]
    exact List.length_map _
  · rw [held_afterReset]
    exact h.2.sublist List.filter_sublist

/-- R27 to R29: every change of the library keeps its form. -/
theorem libraryOk_move {l' : Library} {inUse : Option Nat} (hm : LibraryMove l inUse l') (h : LibraryOk l) :
    LibraryOk l' := by
  cases hm with
  | opened tuneId length ht => exact libraryOk_openTune h ht
  | stored n en bytes hl hb =>
    obtain ⟨hn, hs⟩ := Library.loading_some hl
    exact libraryOk_replace (l := { l with mem := _ }) h hn (entryOk_advance (entryOk_of_entry h hn) hs hb) rfl rfl
      (fun _ => by rw [hs]; decide)
  | succeeded n en d lineEnd hv hd =>
    obtain ⟨hn, hs⟩ := Library.validating_some hv
    exact libraryOk_replace (l := { l with mem := _, lastLoad := _ }) h hn
      (entryOk_readied (entryOk_of_entry h hn) d _) rfl rfl (fun _ => by rw [hs]; decide)
  | ended n en tuneId outcome event hn hr => exact libraryOk_free (l := { l with lastLoad := _ }) h n
  | retired n hu => exact libraryOk_free h n

/-- Log 9: every change of the library keeps the storage in its canonical form. -/
theorem memoryWf_move {l' : Library} {inUse : Option Nat} (hm : LibraryMove l inUse l') (h : l.mem.wf = true) :
    l'.mem.wf = true := by
  cases hm with
  | opened | ended | retired => exact h
  | stored n en bytes hl hb => exact writeImage_wf en en.cursor bytes h
  | succeeded n en d lineEnd hv hd =>
    cases lineEnd with
    | none => exact h
    | some o => exact Memory.wf_write _ _ h

end

/-- Settles O15: the directory and the storage through every change a step makes of the library. -/
theorem stepKeepsLibrary : Obligations.StepKeepsLibrary := by
  intro s t hmem hlib h
  suffices ht : t.library.mem.wf = true ∧ LibraryOk t.library from ht
  have hmem : s.library.mem.wf = true := hmem
  cases step_changes h with
  | plays hp => rw [hp.library]; exact ⟨hmem, hlib⟩
  | loads hi hp hm => exact ⟨memoryWf_move hm hmem, libraryOk_move hm hlib⟩
  | lists hl hp hm => rw [hl]; exact ⟨hmem, hlib⟩
  | powerReset hl hi hp => rw [hl]; exact ⟨rfl, libraryOk_powerUp⟩
  | preparedReset hl hi hp => rw [hl]; exact ⟨hmem, libraryOk_afterReset hlib⟩

end Sys2Proof.Machine
end

section
/-! PROOF (O17, its first three parts). The reader's and the tracker's records, and the period: kept by every move of
playing, and by a reset. -/

namespace Sys2Proof.Machine

/-! ### The reader (R131) -/

theorem clamp_mem {lo hi n : Nat} (h : lo ≤ hi) : lo ≤ clamp lo hi n ∧ clamp lo hi n ≤ hi := by
  simp [clamp, h]

theorem readerOk_move {l : Library} {items : List Item} {p q : Play} (h : Move l items p q) (hp : ReaderOk p.reader) :
    ReaderOk q.reader := by
  obtain ⟨hplan, hgap, hcursor, hlow, hhigh, htag⟩ := hp
  cases h with
  | horizon n => exact ⟨hplan, hgap, hcursor, (clamp_mem (by decide)).1, (clamp_mem (by decide)).2, htag⟩
  | eventScheduled k total hr hc hu =>
    have hflow := hcursor.mp hr
    show ReaderOk (p.reader.advance k total)
    unfold Reader.advance
    split
    · exact ⟨hplan, hgap, iff_of_true rfl hflow, hlow, hhigh, htag⟩
    · split
      · refine ⟨iff_of_true (hplan.mpr ?_) nofun, iff_of_false (mt hgap.mp ?_) nofun, iff_of_true rfl (.inr rfl), hlow,
          hhigh, htag⟩ <;> rcases hflow with hf | hf <;> rw [hf] <;> decide
      · exact ⟨hplan, hgap, iff_of_true rfl hflow, hlow, hhigh, htag⟩
  | sectionStart e tag first evs sec hs hc hu =>
    exact ⟨iff_of_true (plan_of_section hs) nofun, iff_of_false nofun nofun, iff_of_true rfl (.inl rfl), hlow, hhigh,
      by show _ % 65536 ≤ _; omega⟩
  | gap t h =>
    rw [h] at hplan hcursor
    exact ⟨iff_of_true (hplan.mpr nofun) nofun, iff_of_true rfl rfl, iff_of_false (mt hcursor.mp (by simp)) (by simp),
      hlow, hhigh, htag⟩
  | itemTakenUp i n item en tune flow inHand hidle hi hn hr ht hgo =>
    rw [hidle] at hgap hcursor
    refine ⟨iff_of_true rfl ?_, iff_of_false (mt hgap.mp nofun) ?_, iff_of_false (mt hcursor.mp (by simp)) ?_, hlow,
      hhigh, htag⟩ <;> rcases hgo with ⟨rfl, -⟩ | ⟨rfl, -⟩ <;> simp
  | firstSection h =>
    rw [h] at hplan hgap hcursor
    exact ⟨iff_of_true (hplan.mpr nofun) nofun, iff_of_false (mt hgap.mp nofun) nofun,
      iff_of_false (mt hcursor.mp (by simp)) (by simp), hlow, hhigh, htag⟩
  | nextSection h =>
    have hflow : p.reader.flow = .playing ∨ p.reader.flow = .ending := by simpa [Reader.inSection] using h
    refine ⟨iff_of_true (hplan.mpr ?_) nofun, iff_of_false (mt hgap.mp ?_) nofun,
      iff_of_false nofun (by simp), hlow, hhigh, htag⟩ <;> rcases hflow with hf | hf <;> rw [hf] <;> decide
  | itemEnd cause =>
    exact ⟨iff_of_false nofun (by simp [Reader.atItemEnd]), iff_of_false nofun nofun,
      iff_of_false nofun (by simp [Reader.atItemEnd]), hlow, hhigh, htag⟩
  | _ => exact ⟨hplan, hgap, hcursor, hlow, hhigh, htag⟩

/-- A play as a reset leaves its reader and tracker. -/
theorem readerOk_of_core {p q : Play} (h : ReaderOk p.reader) (hc : q.core = p.core) : ReaderOk q.reader := by
  rwa [show q.reader = p.reader from congrArg (fun p => p.reader) hc]

/-- R131: every step keeps the reader's record. -/
theorem readerOk_step {s t : State} (hs : ReaderOk s.play.reader) (h : step s = .next t) : ReaderOk t.play.reader := by
  cases step_changes h with
  | plays hp =>
    exact hp.moves.keeps (I := fun p => ReaderOk p.reader) (fun _ => Iff.rfl) (fun _ _ => readerOk_move) hs
  | loads hi hp hm => exact readerOk_of_core hs hp
  | lists hl hp hm => exact readerOk_of_core (p := { s.play with cursor := t.play.cursor }) hs hp
  | powerReset hl hi hp =>
    exact readerOk_of_core (p := (State.powerUp 0).play) (readerOk_afterReset (by decide) (by decide)) hp
  | preparedReset hl hi hp =>
    obtain ⟨-, -, -, hlow, hhigh, -⟩ := hs
    exact readerOk_of_core (p := Play.afterReset s.play.cursor .firstArrival 0 s.play.tracker.params
      s.play.reader.horizon []) (readerOk_afterReset hlow hhigh) hp

/-! ### The tracker (R107, R112) -/

theorem tracking_iff {tr : Tracker} :
    tr.tracking = true ↔ tr.state = .leading ∨ tr.state = .following ∨ tr.state = .coasting := by
  simp [Tracker.tracking, or_assoc]

theorem afterHold_ne (tr : Tracker) : tr.afterHold ≠ .holding ∧ tr.afterHold ≠ .idle := by
  unfold Tracker.afterHold
  split <;> decide

theorem trackerOk_move {l : Library} {items : List Item} {p q : Play} (h : Move l items p q)
    (hp : TrackerOk p.tracker) : TrackerOk q.tracker := by
  obtain ⟨hhold, hmisses, hparams⟩ := hp
  cases h with
  | miss misses state hm hs =>
    refine ⟨?_, by show misses ≤ 255; omega, hparams⟩
    rcases hs with rfl | ⟨hf, rfl⟩
    · exact hhold
    · exact iff_of_false nofun (mt hhold.mpr (by rw [hf]; decide))
  | correction a t h =>
    refine ⟨iff_of_false nofun (mt hhold.mpr ?_), Nat.zero_le _, hparams⟩
    rcases tracking_iff.mp h with hs | hs | hs <;> rw [hs] <;> decide
  | holdStart time position hold fermata h => exact ⟨iff_of_true rfl rfl, hmisses, hparams⟩
  | holdLonger hold h => exact ⟨iff_of_true (hhold.mpr h) rfl, hmisses, hparams⟩
  | holdEnd time position h =>
    exact ⟨iff_of_false (afterHold_ne p.tracker).1 nofun, Nat.zero_le _, hparams⟩
  | trackParams a =>
    exact ⟨hhold, hmisses, Nat.min_le_right _ _, Nat.min_le_right _ _, (clamp_mem (by decide)).1,
      (clamp_mem (by decide)).2, (clamp_mem (by decide)).1, (clamp_mem (by decide)).2, (clamp_mem (by decide)).1,
      (clamp_mem (by decide)).2, Nat.min_le_right _ _, (clamp_mem (by decide)).1, (clamp_mem (by decide)).2⟩
  | sectionStart e tag first evs sec hs hc hu => exact ⟨iff_of_false nofun nofun, Nat.zero_le _, hparams⟩
  | nextSection h =>
    refine ⟨?_, hmisses, hparams⟩
    simp only [Tracker.sectionEnded]
    split
    · exact iff_of_false (afterHold_ne p.tracker).1 nofun
    · exact hhold
  | itemEnd cause => exact ⟨iff_of_false nofun nofun, Nat.zero_le _, hparams⟩
  | _ => exact ⟨hhold, hmisses, hparams⟩

theorem trackerOk_of_core {p q : Play} (h : TrackerOk p.tracker) (hc : q.core = p.core) : TrackerOk q.tracker := by
  rwa [show q.tracker = p.tracker from congrArg (fun p => p.tracker) hc]

/-- R107, R112: every step keeps the tracker's record. -/
theorem trackerOk_step {s t : State} (hs : TrackerOk s.play.tracker) (h : step s = .next t) :
    TrackerOk t.play.tracker := by
  cases step_changes h with
  | plays hp =>
    exact hp.moves.keeps (I := fun p => TrackerOk p.tracker) (fun _ => Iff.rfl) (fun _ _ => trackerOk_move) hs
  | loads hi hp hm => exact trackerOk_of_core hs hp
  | lists hl hp hm => exact trackerOk_of_core (p := { s.play with cursor := t.play.cursor }) hs hp
  | powerReset hl hi hp => exact trackerOk_of_core (p := (State.powerUp 0).play) trackerOk_powerUp hp
  | preparedReset hl hi hp =>
    obtain ⟨-, -, hparams⟩ := hs
    exact trackerOk_of_core (p := Play.afterReset s.play.cursor .firstArrival 0 s.play.tracker.params
      s.play.reader.horizon []) ⟨iff_of_false nofun nofun, Nat.zero_le _, hparams⟩ hp

/-! ### The period (R51, R107, R117) -/

/-- R51: the effective tempo of an item is in order and in range whenever the tune's periods are. -/
theorem boundsOk_effectiveTempo {h : Header} (hl : 64000 ≤ h.least) (hln : h.least ≤ h.nominal)
    (hng : h.nominal ≤ h.greatest) (hg : h.greatest ≤ 512000) (tempo : Option TempoOverride) :
    BoundsOk (effectiveTempo tempo h) := by
  have within : ∀ least greatest start, h.least ≤ least → greatest ≤ h.greatest →
      BoundsOk (let (least, greatest) := if greatest < least then (h.least, h.greatest) else (least, greatest)
        { least := least, greatest := greatest, starting := max least (min start greatest) }) := by
    intro least greatest start h1 h2
    split
    rename_i least' greatest' heq
    have hp : 64000 ≤ least' ∧ least' ≤ greatest' ∧ greatest' ≤ 512000 := by
      split at heq <;> cases heq <;> omega
    obtain ⟨h1, h2, h3⟩ := hp
    exact ⟨h1, le_max_left _ _, max_le h2 (min_le_right _ _), h3⟩
  unfold effectiveTempo
  cases tempo.bind (·.least) <;> cases tempo.bind (·.greatest)
  · exact within _ _ _ (le_refl _) (le_refl _)
  · exact within _ _ _ (le_refl _) (min_le_left _ _)
  · exact within _ _ _ (le_max_left _ _) (le_refl _)
  · exact within _ _ _ (le_max_left _ _) (min_le_left _ _)

/-- A period within bounds that are in range is in range. -/
theorem period_of_bounds {b : Bounds} {n : Nat} (hb : BoundsOk b) (hl : b.least ≤ n) (hg : n ≤ b.greatest) :
    n = 0 ∨ (64000 ≤ n ∧ n ≤ 512000) := by
  obtain ⟨h1, -, -, h4⟩ := hb
  omega

/-- R116, R117: the tempo measure keeps the period within the item's bounds. -/
theorem tempoStep_period {tr : Tracker} {b : Bounds} (hb : tr.bounds = some b) (hok : BoundsOk b)
    (hl : b.least ≤ tr.period) (hg : tr.period ≤ b.greatest) (a : Nat) (t : Tick) :
    b.least ≤ (tr.tempoStep a t).period ∧ (tr.tempoStep a t).period ≤ b.greatest := by
  have hlimits : tr.limits = b := by simp [Tracker.limits, hb]
  obtain ⟨-, h1, h2, -⟩ := hok
  unfold Tracker.tempoStep
  split
  · exact ⟨hl, hg⟩
  · split
    · exact ⟨hl, hg⟩
    · simp only [Tracker.plausibleStep, hlimits, clampInt]
      omega

/-- The bounds and the period that the tracker has while an item plays. -/
def PeriodWithin (tr : Tracker) : Prop := ∃ b, tr.bounds = some b ∧ b.least ≤ tr.period ∧ tr.period ≤ b.greatest

/-- R113: at a section start the period lies within bounds: those given at an item's first section, or those it
has. -/
theorem periodOk_sectionStart {p : Play} (hp : PeriodOk p) (hr : ReaderOk p.reader) (e : Env) (tag first : Nat)
    (evs : List ScoreEvent) {sec : Section} (hs : p.reader.section = some sec) :
    PeriodOk { p with
      tracker := (trackerSectionStart e tag first p.reader.givenBounds p).tracker
      reader := p.reader.atSectionStart evs } := by
  obtain ⟨hperiod, hbounds, htempo, htaken, hwithin⟩ := hp
  have hflow : p.reader.flow ≠ .idle := hr.1.mp (plan_of_section hs)
  obtain ⟨b, hb⟩ := Option.isSome_iff_exists.mp (htaken hflow)
  unfold trackerSectionStart Reader.givenBounds
  by_cases hfirst : p.reader.inHand = some 0
  · obtain ⟨h1, h2, h3, h4⟩ := htempo b hb
    simp only [if_pos hfirst, hb]
    refine ⟨.inr ⟨by show 64000 ≤ b.starting; omega, by show b.starting ≤ 512000; omega⟩, ?_, htempo,
      fun _ => htaken hflow, fun _ => ⟨b, rfl, h2, h3⟩⟩
    rintro _ ⟨⟩
    exact ⟨h1, h2, h3, h4⟩
  · have hlater : ∃ k, p.reader.inHand = some (k + 1) := by
      unfold Reader.section at hs
      split at hs
      · rename_i i _ hi
        cases i with
        | zero => exact absurd hi hfirst
        | succ k => exact ⟨k, hi⟩
      · cases hs
    simp only [if_neg hfirst]
    exact ⟨hperiod, hbounds, htempo, fun _ => htaken hflow, fun _ => hwithin (.inr (.inr (.inr hlater)))⟩

theorem periodOk_move {l : Library} {items : List Item} {p q : Play} (hl : HeadersOk l) (h : Move l items p q)
    (hp : PeriodOk p) (hr : ReaderOk p.reader) : PeriodOk q := by
  obtain ⟨hperiod, hbounds, htempo, htaken, hwithin⟩ := hp
  have hactive : p.tracker.state ≠ .idle → PeriodWithin p.tracker := fun hs => hwithin (.inl hs)
  have htracking : p.tracker.tracking = true → p.tracker.state ≠ .idle := by
    intro ht
    rcases tracking_iff.mp ht with hs | hs | hs <;> rw [hs] <;> decide
  cases h with
  | miss misses state hm hs =>
    refine ⟨hperiod, hbounds, htempo, htaken, fun hw => hwithin (hw.imp_left fun hi => ?_)⟩
    rcases hs with rfl | ⟨hf, -⟩
    · exact hi
    · rw [hf]; decide
  | correction a t h =>
    obtain ⟨b, hb, h1, h2⟩ := hactive (htracking h)
    obtain ⟨h1, h2⟩ := tempoStep_period hb (hbounds b hb) h1 h2 a t
    exact ⟨period_of_bounds (hbounds b hb) h1 h2, hbounds, htempo, htaken, fun _ => ⟨b, hb, h1, h2⟩⟩
  | holdStart time position hold fermata h =>
    exact ⟨hperiod, hbounds, htempo, htaken, fun _ => hactive (htracking h)⟩
  | holdEnd time position h => exact ⟨hperiod, hbounds, htempo, htaken, fun _ => hactive (by rw [h]; decide)⟩
  | eventScheduled k total hrc hc hu =>
    have hflow := hr.2.2.1.mp hrc
    have hw := hwithin (.inr (hflow.imp_right .inl))
    show PeriodOk { p with reader := p.reader.advance k total }
    unfold Reader.advance
    have hplays : p.reader.flow ≠ .idle := by rcases hflow with hf | hf <;> rw [hf] <;> decide
    split <;> exact ⟨hperiod, hbounds, htempo, fun _ => htaken hplays, fun _ => hw⟩
  | sectionStart e tag first evs sec hs hc hu =>
    exact periodOk_sectionStart ⟨hperiod, hbounds, htempo, htaken, hwithin⟩ hr e tag first evs hs
  | gap t h =>
    refine ⟨hperiod, hbounds, htempo, fun _ => htaken (by rw [h]; decide), fun hw => hwithin ?_⟩
    rcases hw with hs | hf | hf | hk
    · exact .inl hs
    · cases hf
    · cases hf
    · exact .inr (.inr (.inr hk))
  | itemTakenUp i n item en tune flow inHand hidle hi hn hr ht hgo =>
    obtain ⟨h1, h2, h3, h4⟩ := hl n en tune hn hr ht
    refine ⟨hperiod, hbounds, ?_, fun _ => rfl, fun hw => hwithin (.inl ?_)⟩
    · rintro _ ⟨⟩
      exact boundsOk_effectiveTempo h1 h2 h3 h4 _
    · rcases hgo with ⟨rfl, rfl⟩ | ⟨rfl, rfl⟩ <;> simpa using hw
  | firstSection h =>
    refine ⟨hperiod, hbounds, htempo, fun _ => htaken (by rw [h]; decide), fun hw => hwithin (.inl ?_)⟩
    simpa using hw
  | nextSection h =>
    have hflow : p.reader.flow = .playing ∨ p.reader.flow = .ending := by simpa [Reader.inSection] using h
    exact ⟨hperiod, hbounds, htempo, fun _ => htaken (flow_ne_idle_of_inSection h),
      fun _ => hwithin (.inr (hflow.imp_right .inl))⟩
  | itemEnd cause =>
    refine ⟨hperiod, hbounds, nofun, fun h => absurd rfl h, fun hw => ?_⟩
    simp [trackerIdle, Reader.atItemEnd] at hw
  | _ => exact ⟨hperiod, hbounds, htempo, htaken, hwithin⟩

theorem periodOk_of_core {p q : Play} (h : PeriodOk p) (hc : q.core = p.core) : PeriodOk q := by
  have : PeriodOk p.core := h
  rw [← hc] at this
  exact this

/-- R51, R107: every step keeps the period, while the headers of the READY tunes are in order. -/
theorem periodOk_step {s t : State} (hl : HeadersOk s.library) (hr : ReaderOk s.play.reader) (hs : PeriodOk s.play)
    (h : step s = .next t) : PeriodOk t.play := by
  cases step_changes h with
  | plays hp =>
    have both := hp.moves.keeps (I := fun p => PeriodOk p ∧ ReaderOk p.reader) (fun _ => Iff.rfl)
      (fun _ _ hm hi => ⟨periodOk_move hl hm hi.1 hi.2, readerOk_move hm hi.2⟩) ⟨hs, hr⟩
    exact both.1
  | loads hi hp hm => exact periodOk_of_core hs hp
  | lists hl hp hm => exact periodOk_of_core (p := { s.play with cursor := t.play.cursor }) hs hp
  | powerReset hl hi hp =>
    exact periodOk_of_core (p := (State.powerUp 0).play) (periodOk_of_afterReset rfl rfl) hp
  | preparedReset hl hi hp =>
    exact periodOk_of_core (p := Play.afterReset s.play.cursor .firstArrival 0 s.play.tracker.params
      s.play.reader.horizon []) (periodOk_of_afterReset rfl rfl) hp

end Sys2Proof.Machine
end

section
/-! PROOF (O30, O31, O34). The requests of the library (R33 to R35, R43 to R46): which entry each finds, and the bytes
that TUNE DATA stores. -/

namespace Sys2Proof.Machine

/-! ### Finding entries -/

section
variable {l : Library} {f : Entry → Bool} {n : Nat}

/-- The entry found is the first of which the test holds. -/
theorem Library.find_eq_some {en : Entry} (hn : l.entry n = some en) (hf : f en = true)
    (hfirst : ∀ m x, m < n → l.entry m = some x → f x = false) : l.find f = some n := by
  obtain ⟨hlt, hget⟩ := List.getElem?_eq_some_iff.mp (Option.join_eq_some_iff.mp hn)
  refine List.findIdx?_eq_some_iff_getElem.mpr ⟨hlt, by rw [hget]; exact hf, fun m hm => ?_⟩
  have hmlt : m < l.entries.length := hm.trans hlt
  cases hx : l.entries[m] with
  | none => simp
  | some x =>
    have hentry : l.entry m = some x := by simp [Library.entry, List.getElem?_eq_getElem hmlt, hx]
    simp [hfirst m x hm hentry]

theorem Library.find_isSome : (l.find f).isSome = true ↔ ∃ n en, l.entry n = some en ∧ f en = true := by
  rw [← Option.ne_none_iff_isSome, ne_eq, Library.find_eq_none]
  simp only [not_forall, Bool.not_eq_false, exists_prop]

end

section
variable {l : Library} {id len n : Nat}

/-! ### TUNE OPEN (R33, R34) -/

theorem tuneOpenTest_badArgument (h : id = 0 ∨ 65535 ≤ id ∨ len < 22 ∨ 19472 < len) :
    tuneOpenTest l id len = some (.badArgument, 0) := if_pos h

/-- R33: the tests behind that of the arguments. -/
theorem tuneOpenTest_arguments (h : (1 ≤ id ∧ id ≤ 65534) ∧ 22 ≤ len ∧ len ≤ 19472) : tuneOpenTest l id len =
    if (l.find (fun en => decide (en.tuneId = id))).isSome then some (.exists_, 0)
    else if l.openLoad.isSome then some (.busy, 0)
    else if l.freeEntry.isNone then some (.full, 1)
    else if l.freeBlocks.length < blocksFor len then some (.full, 2)
    else none := if_neg (by omega)

/-- R33: TUNE OPEN is refused as its first failing test says. -/
theorem execTuneOpen_refused {s : State} (hr : Ready s) {r : Reason} {d : Nat}
    (ht : tuneOpenTest s.library id len = some (r, d)) :
    exec (.tuneOpen id len) s = .next { s with link := rejectLink s 0x10 r d } := by
  show Host.Outcome.next (s.request (.tuneOpen id len) (carryTuneOpen id len)) = _
  rw [State.request_ready hr rfl, carryTuneOpen, show s.hunt.library = s.library from rfl, ht, State.tested_some,
    State.hunt_reject]

/-- R34: a TUNE OPEN whose tests pass makes its entry. -/
theorem execTuneOpen_taken {s : State} (hr : Ready s) (ht : tuneOpenTest s.library id len = none)
    (hn : s.library.freeEntry = some n) :
    exec (.tuneOpen id len) s = .next { s with
      library := s.library.openTune n id len
      link := replyLink s 0x10 (putNum 1 n ++ putNum 1 (blocksFor len) ++
        putNum 1 ((openedEntry s.library id len).blocks.headD 0) ++
        putNum 2 (s.library.openTune n id len).freeBlocks.length) } := by
  show Host.Outcome.next (s.request (.tuneOpen id len) (carryTuneOpen id len)) = _
  rw [State.request_ready hr rfl, carryTuneOpen, show s.hunt.library = s.library from rfl, ht, State.tested_none]
  show Host.Outcome.next ((s.hunt.setLibrary (s.library.openTune (s.library.freeEntry.getD 0) id len)).reply _ _) = _
  rw [show s.hunt.library.freeEntry = some n from hn, hn]
  rfl

end

/-- Settles O30: each test of TUNE OPEN in its order, and the entry made when none fails. -/
theorem tuneOpenTakesAnEntry : Obligations.TuneOpenTakesAnEntry := by
  intro id len s hr
  refine ⟨fun h => execTuneOpen_refused hr (tuneOpenTest_badArgument h), fun h1 h2 h3 h4 => ?_⟩
  have harguments := tuneOpenTest_arguments (l := s.library) ⟨⟨h1, h2⟩, h3, h4⟩
  refine ⟨fun ⟨n, en, hn, hid⟩ => execTuneOpen_refused hr ?_, fun hunused => ?_⟩
  · rw [harguments, if_pos (Library.find_isSome.mpr ⟨n, en, hn, decide_eq_true hid⟩)]
  have hunused : s.library.find (fun en => decide (en.tuneId = id)) = none :=
    Library.find_eq_none.mpr fun n en hn => decide_eq_false (hunused n en hn)
  rw [hunused] at harguments
  refine ⟨fun hload => execTuneOpen_refused hr ?_, fun hidle => ⟨fun hfull => execTuneOpen_refused hr ?_,
    fun n hn => ⟨fun hblocks => execTuneOpen_refused hr ?_, fun hblocks en l hen hl => ?_⟩⟩⟩
  · rw [harguments, hload]
    rfl
  · rw [harguments, hidle, hfull]
    rfl
  · rw [harguments, hidle, hn]
    exact if_pos hblocks
  · subst hen hl
    refine execTuneOpen_taken hr ?_ hn
    rw [harguments, hidle, hn]
    exact if_neg (not_lt.mpr hblocks)

/-! ### TUNE DATA (R27, R35) -/

/-- Image bytes at different offsets within the blocks of an entry have different addresses. -/
theorem Entry.address_inj {en : Entry} (hnodup : en.blocks.Nodup) {o p : Nat} (ho : o < 256 * en.blocks.length)
    (hp : p < 256 * en.blocks.length) (h : en.address o = en.address p) : o = p := by
  simp only [Entry.address, show Config.blockBytes = 256 from rfl] at h
  have hob : o / 256 < en.blocks.length := by omega
  have hpb : p / 256 < en.blocks.length := by omega
  rw [List.getD_eq_getElem _ _ hob, List.getD_eq_getElem _ _ hpb] at h
  have hblock : en.blocks[o / 256] = en.blocks[p / 256] := by omega
  have := (hnodup.getElem_inj_iff).mp hblock
  omega

/-- R27: each stored byte is read at its own address. -/
theorem writeImage_read {mem : Memory} {en : Entry} (hnodup : en.blocks.Nodup) {o i : Nat} {bytes : List Byte} {b : Byte}
    (hmem : mem.wf = true) (hlen : o + bytes.length ≤ 256 * en.blocks.length) (hb : bytes[i]? = some b) :
    (writeImage mem en o bytes).read (en.address (o + i)) = b := by
  induction bytes generalizing mem o i with
  | nil => cases hb
  | cons c bytes ih =>
    have hwf := Memory.wf_write (en.address o) c hmem
    rw [List.length_cons] at hlen
    cases i with
    | zero =>
      cases hb
      rw [writeImage, writeImage_read_other en (o + 1) _ bytes hwf]
      · exact Memory.read_write_same _ _ hmem
      intro j hj heq
      have := Entry.address_inj hnodup (by omega) (by omega) heq
      omega
    | succ i =>
      rw [writeImage, ← Nat.add_assoc, Nat.add_right_comm]
      exact ih hwf (by omega) hb

/-- Settles O31: the arms of TUNE DATA, and the addresses its bytes go to. -/
theorem tuneDataStoresItsBytes : Obligations.TuneDataStoresItsBytes := by
  refine ⟨fun bytes s hr => ?_, fun mem en o bytes hmem hnodup hlen => ⟨writeImage_wf en o bytes hmem,
    fun i b hb => writeImage_read hnodup hmem hlen hb, fun a ha => writeImage_read_other en o a bytes hmem ha⟩⟩
  have hexec : exec (.tuneData bytes) s = .next (carryTuneData bytes s.hunt) :=
    congrArg Host.Outcome.next (State.request_ready hr rfl (carryTuneData bytes))
  rw [hexec, carryTuneData, show s.hunt.library = s.library from rfl]
  refine ⟨fun hl => ?_, fun n en hl => ⟨fun hb => ?_, fun hb en' hen' => ?_⟩⟩
  · rw [hl]
    rfl
  · rw [hl]
    exact congrArg Host.Outcome.next (if_pos hb)
  · subst hen'
    rw [hl]
    exact congrArg Host.Outcome.next (if_neg (not_lt.mpr hb))

/-! ### TUNE ABORT, TUNE RETIRE, TUNE QUERY and LOAD RESULT (R43 to R46) -/

/-- Settles O34: each request by the entry that it finds. -/
theorem libraryRequestsFreeAndRead : Obligations.LibraryRequestsFreeAndRead := by
  refine ⟨fun id s hr => ?_, fun s hr => ?_⟩
  · have habort : exec (.tuneAbort id) s = .next (carryTuneAbort id s.hunt) :=
      congrArg Host.Outcome.next (State.request_ready hr rfl (carryTuneAbort id))
    have hretire : exec (.tuneRetire id) s = .next (carryTuneRetire id s.hunt) :=
      congrArg Host.Outcome.next (State.request_ready hr rfl (carryTuneRetire id))
    rw [habort, hretire, carryTuneAbort, carryTuneRetire, show s.hunt.library = s.library from rfl]
    refine ⟨fun hnone => ?_, fun n hn l hl => ?_, fun hnone => ?_,
      fun n hn => ⟨fun huse => ?_, fun huse l hl => ?_⟩⟩
    · have hfind : s.library.find (fun en => decide (en.state ≠ .ready) && decide (en.tuneId = id)) = none := by
        refine Library.find_eq_none.mpr fun n en hn => ?_
        by_cases hid : en.tuneId = id
        · simp [hnone n en hn hid]
        · simp [hid]
      rw [hfind]
      rfl
    · rw [hn, hl]
      rfl
    · rw [hnone]
      rfl
    · rw [hn]
      exact congrArg Host.Outcome.next (if_pos huse)
    · rw [hn, hl]
      exact congrArg Host.Outcome.next (if_neg huse)
  · have hquery (which : TuneRef) : exec (.tuneQuery which) s = .next (carryTuneQuery which s.hunt) :=
      congrArg Host.Outcome.next (State.request_ready hr rfl (carryTuneQuery which))
    refine ⟨congrArg Host.Outcome.next (State.request_ready hr rfl carryLoadResult), fun n => ?_, fun id hnone => ?_,
      fun n en hn hfirst => ?_, fun form rest => hquery _⟩
    · rw [hquery, carryTuneQuery]
      split <;> rfl
    · rw [hquery, carryTuneQuery, show s.hunt.library = s.library from rfl,
        Library.find_eq_none.mpr fun n en hn => decide_eq_false (hnone n en hn)]
      rfl
    · rw [hquery, carryTuneQuery, show s.hunt.library = s.library from rfl,
        Library.find_eq_some hn (decide_eq_true rfl) fun m x hm hx => decide_eq_false (hfirst m x hm hx)]
      rfl

end Sys2Proof.Machine
end

section
/-! SUPPORT (O32, O33). The walk of validation (R36 to R41): one event at a time, what it knows after the events read
so far, and how it fails as the checks say. -/

namespace Sys2Proof.Machine

/-! ### Reading events (R207) -/

/-- The bytes that events take in an image (R32). -/
def bytesOf (evs : List ScoreEvent) : Nat := (evs.map (fun ev => 4 + 4 * ev.notes.length)).sum

theorem offsetAfter_eq (evs : List ScoreEvent) : offsetAfter evs = 14 + bytesOf evs := rfl

theorem readNotes_length {get : Nat → Option Nat} {k o : Nat} {notes : List Note}
    (h : readNotes get k o = some notes) : notes.length = k := by
  induction k generalizing o notes with
  | zero => cases h; rfl
  | succ k ih =>
    obtain ⟨n, -, h⟩ := Option.bind_eq_some_iff.mp h
    obtain ⟨rest, hrest, h⟩ := Option.bind_eq_some_iff.mp h
    cases h
    rw [List.length_cons, ih hrest]

/-- One event read and the events after it. -/
theorem readEvents_succ {get : Nat → Option Nat} {k o n : Nat} {notes : List Note} (hn : readNumber get 4 o = some n)
    (hnotes : readNotes get (eventOf n).2 (o + 4) = some notes) :
    readEvents get (k + 1) o = { (eventOf n).1 with notes := notes } :: readEvents get k (o + (4 + 4 * notes.length)) := by
  rw [readEvents, show eventBytes = 4 from rfl, hn]
  simp only
  rw [hnotes, readNotes_length hnotes, Nat.add_assoc]
  rfl

/-- With as many events read as were asked for, reading goes on behind them. -/
theorem readEvents_add {get : Nat → Option Nat} {i o : Nat} (h : (readEvents get i o).length = i) (j : Nat) :
    readEvents get (i + j) o = readEvents get i o ++ readEvents get j (o + bytesOf (readEvents get i o)) := by
  induction i generalizing o with
  | zero => simp [readEvents, bytesOf]
  | succ i ih =>
    cases hn : readNumber get 4 o with
    | none => simp [readEvents, show eventBytes = 4 from rfl, hn] at h
    | some n =>
      cases hnotes : readNotes get (eventOf n).2 (o + 4) with
      | none => simp [readEvents, show eventBytes = 4 from rfl, hn, hnotes] at h
      | some notes =>
        rw [readEvents_succ hn hnotes] at h ⊢
        rw [Nat.add_right_comm, readEvents_succ hn hnotes, ih (by simpa using h)]
        simp [bytesOf, Nat.add_assoc]

/-- The next event behind those read so far. -/
theorem readEvents_snoc {get : Nat → Option Nat} {i n : Nat} {evs : List ScoreEvent} {notes : List Note}
    (hevs : readEvents get i 14 = evs) (hlen : evs.length = i) (hn : readNumber get 4 (offsetAfter evs) = some n)
    (hnotes : readNotes get (eventOf n).2 (offsetAfter evs + 4) = some notes) :
    readEvents get (i + 1) 14 = evs ++ [{ (eventOf n).1 with notes := notes }] := by
  subst hevs
  rw [readEvents_add hlen 1, ← offsetAfter_eq, readEvents_succ hn hnotes]
  rfl

/-! ### Tests in their order -/

@[simp] theorem firstFailing_nil : firstFailing [] = none := rfl

@[simp] theorem firstFailing_cons (b : Bool) (o : LoadOutcome) (tests : List (Bool × LoadOutcome)) :
    firstFailing ((b, o) :: tests) = if b then some o else firstFailing tests := by
  cases b <;> rfl

/-- No test of a list fails. -/
theorem firstFailing_eq_none {tests : List (Bool × LoadOutcome)} :
    firstFailing tests = none ↔ ∀ x ∈ tests, x.1 = false := by
  simp [firstFailing]

/-- A test in a list of which none fails. -/
theorem passes_of_firstFailing {tests : List (Bool × LoadOutcome)} (h : firstFailing tests = none) (i : Nat)
    {x : Bool × LoadOutcome} (hx : tests[i]? = some x) : x.1 = false :=
  firstFailing_eq_none.mp h x (List.mem_of_getElem? hx)

theorem ite_some_congr {P Q : Prop} [Decidable P] [Decidable Q] {o : LoadOutcome} {x y : Option LoadOutcome}
    (h : P ↔ Q) (hxy : ¬ P → x = y) : (if P then some o else x) = if Q then some o else y := by
  by_cases hp : P
  · rw [if_pos hp, if_pos (h.mp hp)]
  · rw [if_neg hp, if_neg (mt h.mpr hp), hxy hp]

theorem ite_some_or {P Q : Prop} [Decidable P] [Decidable Q] {o : LoadOutcome} {x y z : Option LoadOutcome}
    (h : P ↔ Q) (hxy : ¬ P → x = y.or z) : (if P then some o else x) = (if Q then some o else y).or z := by
  by_cases hp : P
  · rw [if_pos hp, if_pos (h.mp hp), Option.some_or]
  · rw [if_neg hp, if_neg (mt h.mpr hp), hxy hp]

/-- R37: the header's checks are its tests in their order. -/
theorem checkHeader_eq (tuneId : Nat) (h : Header) : checkHeader tuneId h = firstFailing (headerTests tuneId h) := by
  simp only [checkHeader, headerTests, firstFailing_cons, firstFailing_nil]
  refine ite_some_congr (by simp) fun _ => ite_some_congr ?_ fun _ => ite_some_congr ?_ fun _ => rfl
  · simp only [periodOk, Bool.not_eq_true', Bool.and_eq_false_iff, decide_eq_false_iff_not, List.all_eq_false,
      decide_eq_true_eq, List.mem_cons, List.not_mem_nil, or_false, exists_eq_or_imp, exists_eq_left, not_le,
      or_assoc]
  · simp only [Bool.not_eq_true', Bool.and_eq_false_iff, decide_eq_false_iff_not, decide_eq_true_eq, not_le]

/-- R39: a note's checks are its tests in their order. -/
theorem checkNote_eq (voiceCount position : Nat) (earlier : List Note) (seen : List Nat) (n : Note)
    (hseen : ∀ v, v ∈ seen ↔ ∃ m ∈ earlier, m.voice = v) :
    checkNote voiceCount position seen n = firstFailing (noteTests voiceCount position earlier n) := by
  simp only [checkNote, noteTests, firstFailing_cons, firstFailing_nil]
  refine ite_some_congr ?_ fun _ => ite_some_congr (by simp [Config.lastPosition]) fun _ =>
    ite_some_congr (by simp) fun _ => ite_some_congr ?_ fun _ => rfl
  · simp only [Bool.not_eq_true', Bool.and_eq_false_iff, decide_eq_false_iff_not, decide_eq_true_eq, not_le, or_assoc]
  · simp only [List.contains_iff_mem, decide_eq_true_eq, hseen]

/-- R38.4, R39: the notes' checks, after notes whose voices have been seen. -/
theorem checkNotes_eq (voiceCount position : Nat) (notes : List Note) {earlier : List Note} {seen : List Nat}
    (hseen : ∀ v, v ∈ seen ↔ ∃ m ∈ earlier, m.voice = v) :
    checkNotes voiceCount position seen notes = (List.range notes.length).findSome? (fun j =>
      (notes[j]?).bind (fun n => firstFailing (noteTests voiceCount position (earlier ++ notes.take j) n))) := by
  induction notes generalizing earlier seen with
  | nil => rfl
  | cons n rest ih =>
    have hseen' : ∀ v, v ∈ n.voice :: seen ↔ ∃ m ∈ earlier ++ [n], m.voice = v := by
      intro v
      simp only [List.mem_cons, hseen, List.mem_append, List.not_mem_nil, or_false, or_and_right, exists_or,
        exists_eq_left]
      rw [or_comm, eq_comm]
    rw [checkNotes, checkNote_eq voiceCount position earlier seen n hseen, ih hseen', List.length_cons,
      List.range_succ_eq_map, List.findSome?_cons]
    simp only [List.take_zero, List.append_nil, List.getElem?_cons_zero, Option.bind_some, List.findSome?_map,
      Function.comp_def, List.getElem?_cons_succ, List.take_succ_cons, List.append_assoc, List.singleton_append]
    cases firstFailing (noteTests voiceCount position earlier n) <;> rfl

theorem notesFailure_eq (voiceCount position : Nat) (notes : List Note) :
    notesFailure voiceCount position notes = checkNotes voiceCount position [] notes :=
  (checkNotes_eq voiceCount position notes (earlier := []) (by simp)).symm

/-! ### What the walk knows -/

/-- The verse events of a list of events. -/
def versesOf (evs : List ScoreEvent) : List ScoreEvent := evs.filter (fun ev => !ev.amen)

/-- The greatest end position among the notes of some events. -/
def endOf (evs : List ScoreEvent) : Nat := (evs.map (·.stop)).foldl max 0

/-- What the walk knows after these events, `inspected` saying whether the last verse event has been inspected for
its LINE END (R40.1). -/
structure Walked (inspected : Bool) (evs : List ScoreEvent) (w : Walk) : Prop where
  index : w.index = evs.length
  offset : w.offset = offsetAfter evs
  prevPos : w.prevPos = evs.getLast?.map (·.position)
  prevAmen : w.prevAmen = evs.getLast?.any (·.amen)
  verseEvents : w.verseEvents = (versesOf evs).length
  lines : w.lines = (versesOf evs).countP (·.lineEnd) + w.supplied.isSome.toNat
  verseAnchors : w.verseAnchors = evs.countP (fun b => decide (b.amen = false) && b.anchor)
  amenAnchors : w.amenAnchors = evs.countP (fun b => decide (b.amen = true) && b.anchor)
  verseLength : w.verseLength = endOf (versesOf evs)
  amenStart : w.amenStart = (evs.find? (·.amen)).map (·.position)
  amenEnd : w.amenEnd = (evs.find? (·.amen)).map (fun _ => endOf (evs.filter (·.amen)))
  lastLineEnd : w.lastVerse.map (·.2.2) = (versesOf evs).getLast?.map (·.lineEnd)
  lastIndex : ∀ x, w.lastVerse = some x → inspected = false → x.1 = evs.length - 1
  lastOffset : ∀ x, w.lastVerse = some x → 14 ≤ x.2.1 ∧ x.2.1 + 4 ≤ w.offset
  supplied : w.supplied.isSome = (inspected && (versesOf evs).getLast?.any (fun b => !b.lineEnd))
  suppliedOffset : ∀ o, w.supplied = some o → 14 ≤ o ∧ o + 4 ≤ w.offset
  suppliedLines : w.supplied.isSome = true → w.lines ≤ 16

theorem walked_start : Walked false [] .start := by
  constructor <;> simp [Walk.start, headerBytes, offsetAfter, versesOf, endOf]

/-! ### The LINE END supplied (R40.1) -/

section
variable {get : Nat → Option Nat} {vc i : Nat} {evs : List ScoreEvent} {ev : ScoreEvent} {w : Walk}

theorem versesOf_eq (h : evs.all (fun b => !b.amen) = true) : versesOf evs = evs :=
  List.filter_eq_self.mpr (List.all_eq_true.mp h)

theorem Walked.amenStart_eq_none {b : Bool} (hw : Walked b evs w) :
    w.amenStart = none ↔ evs.all (fun b => !b.amen) = true := by
  simp [hw.amenStart]

/-- A walk that needs no LINE END supplied counts as inspected. -/
theorem Walked.inspected (hw : Walked false evs w) (h : (versesOf evs).getLast?.any (fun b => !b.lineEnd) = false) :
    Walked true evs w :=
  { hw with
    lastIndex := nofun
    supplied := by rw [hw.supplied, h]; rfl }

/-- A walk to which the LINE END of its last verse event is supplied. -/
theorem Walked.supply (hw : Walked false evs w) {j o : Nat} (hlast : w.lastVerse = some (j, o, false))
    (hlines : w.lines + 1 ≤ 16) :
    Walked true evs { w with lines := w.lines + 1, supplied := some o } := by
  have hnone : w.supplied = none := by simpa using hw.supplied
  have hline : (versesOf evs).getLast?.any (fun b => !b.lineEnd) = true := by
    have h := hw.lastLineEnd
    rw [hlast] at h
    cases hv : (versesOf evs).getLast? <;> simp_all
  exact { hw with
    lines := by simp [hw.lines, hnone]
    lastIndex := nofun
    supplied := by rw [hline]; rfl
    suppliedOffset := fun p hp => by
      cases hp
      exact hw.lastOffset _ hlast
    suppliedLines := fun _ => hlines }

/-- R40.1: the inspection of the last verse event, when no amen event has been met. -/
theorem supplyLineEnd_walked (hw : Walked false evs w) (hv : evs.all (fun b => !b.amen) = true) :
    (supplyFails evs = true → supplyLineEnd w = .error { outcome := .lines, event := some (evs.length - 1) }) ∧
    (supplyFails evs = false → ∃ w', supplyLineEnd w = .ok w' ∧ Walked true evs w') := by
  have hnone : w.supplied = none := by simpa using hw.supplied
  have hlines : w.lines = evs.countP (·.lineEnd) := by simpa [versesOf_eq hv, hnone] using hw.lines
  have hline : w.lastVerse.map (·.2.2) = evs.getLast?.map (·.lineEnd) := by
    rw [hw.lastLineEnd, versesOf_eq hv]
  have hdone (h : evs.getLast?.any (fun b => !b.lineEnd) = false) : Walked true evs w :=
    hw.inspected (by rwa [versesOf_eq hv])
  unfold supplyLineEnd supplyFails
  split
  · rename_i j o hlast
    have hj : j = evs.length - 1 := hw.lastIndex _ hlast rfl
    have hlack : evs.getLast?.any (fun b => !b.lineEnd) = true := by
      rw [hlast] at hline
      cases he : evs.getLast? <;> simp_all
    rw [hlack, Bool.true_and, decide_eq_true_eq, decide_eq_false_iff_not, ← hlines, ← hj]
    exact ⟨fun h => if_pos (by omega), fun h => ⟨_, if_neg (by omega), hw.supply hlast (by omega)⟩⟩
  · rename_i hlast
    have hlack : evs.getLast?.any (fun b => !b.lineEnd) = false := by
      cases he : evs.getLast? with
      | none => rfl
      | some b =>
        obtain ⟨x, hx, hb⟩ := Option.map_eq_some_iff.mp (hline.trans (by rw [he]; rfl))
        cases hb' : b.lineEnd with
        | true => simp [hb']
        | false => exact absurd (by rw [hx, ← hb', ← show x.2.2 = b.lineEnd from hb]) (hlast x.1 x.2.1)
    rw [hlack]
    exact ⟨nofun, fun _ => ⟨w, rfl, hdone hlack⟩⟩

/-- The inspection made as an amen event is met, or after the last event: made once, at the first. -/
theorem inspect_walked (hw : Walked (evs.any (·.amen)) evs w) (a : Bool) :
    ((a && evs.all (fun b => !b.amen) && supplyFails evs) = true →
      (if a = true ∧ w.amenStart = none then supplyLineEnd w else .ok w) =
        .error { outcome := .lines, event := some (evs.length - 1) }) ∧
    ((a && evs.all (fun b => !b.amen) && supplyFails evs) = false →
      ∃ w', (if a = true ∧ w.amenStart = none then supplyLineEnd w else .ok w) = .ok w' ∧
        Walked (evs.any (·.amen) || a) evs w') := by
  simp only [hw.amenStart_eq_none]
  by_cases h : a = true ∧ evs.all (fun b => !b.amen) = true
  · obtain ⟨rfl, hv⟩ := h
    have hany : evs.any (·.amen) = false := by simpa using hv
    rw [if_pos ⟨rfl, hv⟩, hv, hany, Bool.true_and, Bool.true_and]
    exact supplyLineEnd_walked (hany ▸ hw) hv
  · have hcond : (a && evs.all (fun b => !b.amen)) = false := by simpa using h
    rw [if_neg h, hcond, Bool.false_and]
    refine ⟨nofun, fun _ => ⟨w, rfl, ?_⟩⟩
    cases a with
    | false => simpa using hw
    | true =>
      have hany : evs.any (·.amen) = true := by simpa using hcond
      simpa [hany] using hw

/-! ### One event (R38, R39) -/

/-- Events that the walk has passed one after another. -/
inductive Passed (vc : Nat) : List ScoreEvent → Prop
  | nil : Passed vc []
  | snoc {evs : List ScoreEvent} {ev : ScoreEvent} : Passed vc evs →
      eventFailure vc evs ev ev.notes.length = none → Passed vc (evs ++ [ev])

/-- R38: the tests before the notes, the notes, and the tests behind them. -/
theorem eventFailure_eq {count : Nat} : eventFailure vc evs ev count = (firstFailing (eventTests evs ev count)).or
    ((notesFailure vc ev.position ev.notes).or (firstFailing (flagTests evs ev))) := by
  rw [eventFailure]
  cases firstFailing (eventTests evs ev count) with
  | some o => rfl
  | none => cases notesFailure vc ev.position ev.notes <;> rfl

theorem eventFailure_eq_none {count : Nat} : eventFailure vc evs ev count = none ↔
    firstFailing (eventTests evs ev count) = none ∧ notesFailure vc ev.position ev.notes = none ∧
    firstFailing (flagTests evs ev) = none := by
  rw [eventFailure_eq, Option.or_eq_none_iff, Option.or_eq_none_iff]

/-- R38.2, R38.3: an event that passes comes later than the one before it, and is an amen event if that is. -/
theorem follows_of_passes {count : Nat} (h : eventFailure vc evs ev count = none) :
    ∀ b ∈ evs.getLast?, b.position < ev.position ∧ (b.amen = true → ev.amen = true) := by
  intro b hb
  have htests := passes_of_firstFailing (eventFailure_eq_none.mp h).1
  have horder := htests 1 rfl
  have hamen := htests 2 rfl
  simp only [decide_eq_false_iff_not, not_exists, not_and, not_le, Bool.not_eq_false] at horder hamen
  exact ⟨horder b hb, hamen b hb⟩

/-- R31: events that pass rise, and amen events stand behind the verse events. -/
theorem Passed.pairwise (h : Passed vc evs) :
    evs.Pairwise (fun a b => a.position < b.position ∧ (a.amen = true → b.amen = true)) := by
  have : IsTrans ScoreEvent (fun a b => a.position < b.position ∧ (a.amen = true → b.amen = true)) :=
    ⟨fun a b c hab hbc => ⟨hab.1.trans hbc.1, hbc.2 ∘ hab.2⟩⟩
  rw [← List.isChain_iff_pairwise]
  induction h with
  | nil => exact .nil
  | snoc hp hev ih => exact List.isChain_append.mpr ⟨ih, .singleton _, fun b hb x hx => by
      cases hx
      exact follows_of_passes hev b hb⟩

/-- Once an amen event has passed, the last event is one. -/
theorem Passed.amen_last (h : Passed vc evs) (ha : evs.any (·.amen) = true) : ∃ b ∈ evs.getLast?, b.amen = true := by
  have hrise := h.pairwise
  obtain ⟨a, hmem, hamen⟩ := List.any_eq_true.mp ha
  cases h with
  | nil => cases hmem
  | @snoc es e hp he =>
    refine ⟨e, by simp, ?_⟩
    obtain hmem | hmem := List.mem_append.mp hmem
    · exact ((List.pairwise_append.mp hrise).2.2 a hmem e List.mem_cons_self).2 hamen
    · cases List.mem_singleton.mp hmem
      exact hamen

/-- The LINE ENDs that the walk counts when it meets a verse event are those it has read. -/
theorem Walked.lines_eq {b : Bool} (hw : Walked b evs w) (hb : b = false) :
    w.lines = evs.countP (fun x => !x.amen && x.lineEnd) := by
  subst hb
  have hnone : w.supplied = none := by simpa using hw.supplied
  rw [hw.lines, hnone, versesOf, List.countP_filter]
  simp only [Bool.and_comm, Option.isSome_none, Bool.toNat_false, Nat.add_zero]

/-- R38.5 to R38.7: the flags' checks. -/
theorem flagChecks_eq {b : Bool} (hw : Walked b evs w) (hb : ev.amen = false → b = false) :
    (if ev.amen = true ∧ ev.lineEnd = true then some LoadOutcome.flagPlace
      else if ev.anchor = true ∧ 128 < (if ev.amen = true then w.amenAnchors else w.verseAnchors) + 1 then some .anchors
      else if ¬ ev.amen = true ∧ ev.lineEnd = true ∧ 16 < w.lines + 1 then some .lines
      else none) = firstFailing (flagTests evs ev) := by
  simp only [flagTests, firstFailing_cons, firstFailing_nil, decide_eq_true_eq]
  refine ite_some_congr Iff.rfl fun _ => ite_some_congr ?_ fun _ => ite_some_congr ?_ fun _ => rfl
  · rw [hw.amenAnchors, hw.verseAnchors]
    cases ev.amen <;> simp
  · cases hamen : ev.amen with
    | true => simp
    | false => simp [hw.lines_eq (hb hamen)]

/-- R38: the walk's checks on an event are those of the rules. -/
theorem checkEvent_eq {b : Bool} {count : Nat} (hp : Passed vc evs) (hw : Walked b evs w)
    (hb : ev.amen = false → b = evs.any (·.amen)) : checkEvent vc w ev count = eventFailure vc evs ev count := by
  rw [eventFailure_eq, checkEvent]
  simp only [eventTests, firstFailing_cons, firstFailing_nil, decide_eq_true_eq]
  refine ite_some_or ?_ fun _ => ite_some_or ?_ fun _ => ite_some_or ?_ fun hplace => ite_some_or Iff.rfl fun _ => ?_
  · rw [hw.index, List.length_eq_zero_iff]
  · rw [hw.prevPos]
    cases evs.getLast? <;> simp
  · rw [hw.prevAmen]
    cases evs.getLast? <;> simp
  · have hverse : ev.amen = false → b = false := by
      intro hamen
      rw [hb hamen]
      by_contra hany
      obtain ⟨x, hx, hxamen⟩ := hp.amen_last (by simpa using hany)
      rw [hw.prevAmen, Option.mem_def.mp hx] at hplace
      simp [hxamen, hamen] at hplace
    rw [notesFailure_eq, ← flagChecks_eq hw hverse, Option.none_or]
    cases checkNotes vc ev.position [] ev.notes <;> rfl

/-! ### After an event -/

theorem offsetAfter_snoc : offsetAfter (evs ++ [ev]) = offsetAfter evs + 4 + 4 * ev.notes.length := by
  simp [offsetAfter, Nat.add_assoc]

theorem endOf_snoc : endOf (evs ++ [ev]) = max (endOf evs) ev.stop := by
  simp [endOf]

theorem versesOf_snoc : versesOf (evs ++ [ev]) = if ev.amen = true then versesOf evs else versesOf evs ++ [ev] := by
  cases h : ev.amen <;> simp [versesOf, h]

/-- R40.1: an amen event is walked once the last verse event has been inspected. -/
theorem Walked.after_amen (hw : Walked true evs w) (ha : ev.amen = true) :
    Walked true (evs ++ [ev]) (w.after ev ev.notes.length) := by
  have hverses : versesOf (evs ++ [ev]) = versesOf evs := by rw [versesOf_snoc, if_pos ha]
  have hstart : (evs ++ [ev]).find? (·.amen) = some ((evs.find? (·.amen)).getD ev) := by
    cases h : evs.find? (·.amen) <;> simp [h, ha]
  constructor <;> simp only [Walk.after, ha, if_true, hverses, hstart, List.countP_append]
  · simp [hw.index]
  · rw [offsetAfter_snoc, hw.offset]
    rfl
  · simp
  · simp [ha]
  · exact hw.verseEvents
  · exact hw.lines
  · simp [hw.verseAnchors, ha]
  · cases h : ev.anchor <;> simp [hw.amenAnchors, ha, h]
  · exact hw.verseLength
  · rw [hw.amenStart]
    cases evs.find? (·.amen) <;> rfl
  · rw [hw.amenEnd, List.filter_append, List.filter_singleton, ha, cond_true, endOf_snoc]
    cases h : evs.find? (·.amen) with
    | some b => rfl
    | none =>
      have hnil : evs.filter (·.amen) = [] := List.filter_eq_nil_iff.mpr (List.find?_eq_none.mp h)
      rw [hnil]
      rfl
  · exact hw.lastLineEnd
  · nofun
  · intro x hx
    have := hw.lastOffset x hx
    exact ⟨this.1, by omega⟩
  · exact hw.supplied
  · intro x hx
    have := hw.suppliedOffset x hx
    exact ⟨this.1, by omega⟩
  · exact hw.suppliedLines

/-- A verse event is walked while no LINE END has been supplied. -/
theorem Walked.after_verse (hw : Walked false evs w) (ha : ev.amen = false) :
    Walked false (evs ++ [ev]) (w.after ev ev.notes.length) := by
  have hverses : versesOf (evs ++ [ev]) = versesOf evs ++ [ev] := by rw [versesOf_snoc, if_neg (by simp [ha])]
  have hstart : (evs ++ [ev]).find? (·.amen) = evs.find? (·.amen) := by simp [ha]
  constructor <;> simp only [Walk.after, ha, Bool.false_eq_true, if_false, hverses, hstart, List.countP_append]
  · simp [hw.index]
  · rw [offsetAfter_snoc, hw.offset]
    rfl
  · simp
  · simp [ha]
  · simp [hw.verseEvents]
  · cases h : ev.lineEnd <;> simp [hw.lines, h, Nat.add_right_comm]
  · cases h : ev.anchor <;> simp [hw.verseAnchors, ha, h]
  · simp [hw.amenAnchors, ha]
  · rw [endOf_snoc, hw.verseLength]
  · exact hw.amenStart
  · rw [List.filter_append, List.filter_singleton, ha, cond_false, List.append_nil]
    exact hw.amenEnd
  · simp
  · intro x hx _
    cases hx
    simp [hw.index]
  · intro x hx
    cases hx
    have : 14 ≤ w.offset := by rw [hw.offset, offsetAfter_eq]; omega
    simp only [show eventBytes = 4 from rfl, show noteBytes = 4 from rfl]
    omega
  · exact hw.supplied
  · intro x hx
    have := hw.suppliedOffset x hx
    exact ⟨this.1, by omega⟩
  · intro hs
    rw [hw.supplied] at hs
    cases hs

/-! ### The walk (R36) -/

/-- The walk has passed the first i events, and knows what it should. -/
structure Reached (get : Nat → Option Nat) (vc i : Nat) (evs : List ScoreEvent) (w : Walk) : Prop where
  read : readEvents get i 14 = evs
  length : evs.length = i
  passed : Passed vc evs
  walked : Walked (evs.any (·.amen)) evs w

theorem reached_start (get : Nat → Option Nat) (vc : Nat) : Reached get vc 0 [] .start :=
  ⟨rfl, rfl, .nil, walked_start⟩

/-- An event that passes is walked. -/
theorem Walked.after (hp : Passed vc evs) (hw : Walked (evs.any (·.amen) || ev.amen) evs w)
    (h : eventFailure vc evs ev ev.notes.length = none) :
    Walked ((evs ++ [ev]).any (·.amen)) (evs ++ [ev]) (w.after ev ev.notes.length) := by
  rw [List.any_append, List.any_cons, List.any_nil, Bool.or_false]
  cases ha : ev.amen with
  | true =>
    rw [ha, Bool.or_true] at hw
    rw [Bool.or_true]
    exact hw.after_amen ha
  | false =>
    have hany : evs.any (·.amen) = false := by
      by_contra hany
      obtain ⟨b, hb, hamen⟩ := hp.amen_last (by simpa using hany)
      simp [(follows_of_passes h b hb).2 hamen] at ha
    rw [hany, ha] at hw
    rw [hany]
    exact hw.after_verse ha

/-- R36, R38 to R40: the walk at the next event fails as `failureAt` says, or passes it. -/
theorem walkEvents_succ (hr : Reached get vc i evs w) (k : Nat) :
    (∀ f, failureAt get vc i = some f → walkEvents get vc (k + 1) w = .error f) ∧
    (failureAt get vc i = none → ∃ ev w', Reached get vc (i + 1) (evs ++ [ev]) w' ∧
      walkEvents get vc (k + 1) w = walkEvents get vc k w') := by
  obtain ⟨hread, hlen, hp, hw⟩ := hr
  simp only [failureAt, hread]
  rw [walkEvents, hw.offset, hw.index, show eventBytes = 4 from rfl, hlen]
  cases hn : readNumber get 4 (offsetAfter evs) with
  | none => exact ⟨fun f hf => by cases hf; rfl, nofun⟩
  | some n =>
    simp only
    obtain ⟨hfails, hpasses⟩ := inspect_walked hw (eventOf n).1.amen
    by_cases hs : ((eventOf n).1.amen && evs.all (fun b => !b.amen) && supplyFails evs) = true
    · rw [hfails hs, if_pos hs, hlen]
      exact ⟨fun f hf => by cases hf; rfl, nofun⟩
    · obtain ⟨w', hsupply, hw'⟩ := hpasses (by simpa using hs)
      rw [hsupply, if_neg hs]
      simp only
      rw [hw'.offset, hw'.index, hlen]
      cases hnotes : readNotes get (eventOf n).2 (offsetAfter evs + 4) with
      | none => exact ⟨fun f hf => by cases hf; rfl, nofun⟩
      | some notes =>
        simp only
        have hcount := readNotes_length hnotes
        rw [checkEvent_eq hp hw' (fun ha => by simp [show (eventOf n).1.amen = false from ha]), ← hcount]
        cases hf : eventFailure vc evs { (eventOf n).1 with notes := notes } notes.length with
        | some o => exact ⟨fun f hf => by cases hf; rfl, nofun⟩
        | none =>
          refine ⟨nofun, fun _ => ⟨{ (eventOf n).1 with notes := notes }, _,
            ⟨readEvents_snoc hread hlen hn hnotes, by simp [hlen], .snoc hp hf, ?_⟩, rfl⟩⟩
          exact Walked.after hp hw' hf

/-- The walk passes events while none of them fails. -/
theorem walkEvents_reached {n : Nat} (hi : i ≤ n) (h : ∀ j < i, failureAt get vc j = none) :
    ∃ evs w, Reached get vc i evs w ∧ walkEvents get vc n .start = walkEvents get vc (n - i) w := by
  induction i with
  | zero => exact ⟨[], .start, reached_start get vc, rfl⟩
  | succ i ih =>
    obtain ⟨evs, w, hr, hw⟩ := ih (by omega) fun j hj => h j (by omega)
    obtain ⟨ev, w', hr', hw'⟩ := (walkEvents_succ hr (n - (i + 1))).2 (h i (by omega))
    exact ⟨evs ++ [ev], w', hr', by rw [hw, ← hw', show n - (i + 1) + 1 = n - i by omega]⟩

/-- The walk fails at the first event that fails. -/
theorem walkEvents_error {n : Nat} {f : WalkFailure} (hi : i < n) (h : ∀ j < i, failureAt get vc j = none)
    (hf : failureAt get vc i = some f) : walkEvents get vc n .start = .error f := by
  obtain ⟨evs, w, hr, hw⟩ := walkEvents_reached hi.le h
  rw [hw, show n - i = n - (i + 1) + 1 by omega]
  exact (walkEvents_succ hr _).1 f hf

/-- With no event that fails the walk passes them all. -/
theorem walkEvents_ok {n : Nat} (h : ∀ j < n, failureAt get vc j = none) :
    ∃ w, Reached get vc n (readEvents get n 14) w ∧ walkEvents get vc n .start = .ok w := by
  obtain ⟨evs, w, hr, hw⟩ := walkEvents_reached le_rfl h
  refine ⟨w, ?_, by rw [hw, Nat.sub_self, walkEvents]⟩
  rwa [hr.read]

/-! ### The end of the walk (R40, R41) -/

/-- R40: what the end of the walk makes of what it knows. -/
def finishWalk (length : Nat) (w : Walk) : Except WalkFailure (Derived × Option Nat) :=
  match (if w.amenStart = none then supplyLineEnd w else .ok w) with
  | .error f => .error f
  | .ok w =>
    match checkEnd length w with
    | some o => .error { outcome := o, event := none }
    | none => .ok (w.derived, w.supplied)

/-- R40.2, R40.3: the checks behind the last event, once the last verse event has been inspected. -/
theorem checkEnd_eq (hw : Walked true evs w) (length : Nat) : checkEnd length w =
    if evs.all (fun b => b.amen || !b.anchor) then some .noAnchor
    else if offsetAfter evs < length then some .long else none := by
  rw [checkEnd, hw.offset]
  refine ite_some_congr ?_ fun _ => rfl
  rw [hw.verseAnchors, List.countP_eq_zero]
  simp [or_iff_not_imp_left]

/-- R40: the end of the walk fails as `endFailure` says, or passes with what the walk knows. -/
theorem finishWalk_eq (hw : Walked (evs.any (·.amen)) evs w) (length : Nat) :
    (∀ f, endFailure length evs = some f → finishWalk length w = .error f) ∧
    (endFailure length evs = none →
      ∃ w', Walked true evs w' ∧ finishWalk length w = .ok (w'.derived, w'.supplied)) := by
  obtain ⟨hfails, hpasses⟩ := inspect_walked hw true
  simp only [true_and, Bool.true_and, Bool.or_true] at hfails hpasses
  rw [finishWalk, endFailure]
  by_cases hs : (evs.all (fun b => !b.amen) && supplyFails evs) = true
  · rw [hfails hs, if_pos hs]
    exact ⟨fun f hf => by cases hf; rfl, nofun⟩
  · obtain ⟨w', hsupply, hw'⟩ := hpasses (by simpa using hs)
    rw [hsupply, if_neg hs]
    simp only [checkEnd_eq hw']
    split
    · exact ⟨fun f hf => by cases hf; rfl, nofun⟩
    · split
      · exact ⟨fun f hf => by cases hf; rfl, nofun⟩
      · exact ⟨nofun, fun _ => ⟨w', hw', rfl⟩⟩

end

section
variable {mem : Memory} {en : Entry} {n : Nat} (hn : readNumber (imageByte mem en) 14 0 = some n)
include hn

theorem validate_badHeader {o : LoadOutcome} (h : firstFailing (headerTests en.tuneId (headerOf n)) = some o) :
    validate mem en = .error { outcome := o, event := none } := by
  rw [validate, show headerBytes = 14 from rfl, hn]
  simp only [checkHeader_eq, h]

/-- A header that passes: the walk over the events and its end. -/
theorem validate_events (h : firstFailing (headerTests en.tuneId (headerOf n)) = none) : validate mem en =
    (walkEvents (imageByte mem en) (headerOf n).voiceCount (headerOf n).eventCount .start).bind
      (finishWalk en.length) := by
  rw [validate, show headerBytes = 14 from rfl, hn]
  simp only [checkHeader_eq, h]
  cases walkEvents (imageByte mem en) (headerOf n).voiceCount (headerOf n).eventCount .start <;> rfl

/-- The first event that fails ends the validation. -/
theorem validate_badEvent {i : Nat} {f : WalkFailure} (h : firstFailing (headerTests en.tuneId (headerOf n)) = none)
    (hi : i < (headerOf n).eventCount)
    (hbefore : ∀ j < i, failureAt (imageByte mem en) (headerOf n).voiceCount j = none)
    (hf : failureAt (imageByte mem en) (headerOf n).voiceCount i = some f) : validate mem en = .error f := by
  rw [validate_events hn h, walkEvents_error hi hbefore hf]
  rfl

/-- A validation in which no event fails ends as the checks after the last event say. -/
theorem validate_end (h : firstFailing (headerTests en.tuneId (headerOf n)) = none)
    (hevents : ∀ i < (headerOf n).eventCount, failureAt (imageByte mem en) (headerOf n).voiceCount i = none)
    {evs : List ScoreEvent} (hevs : evs = readEvents (imageByte mem en) (headerOf n).eventCount 14) :
    (∀ f, endFailure en.length evs = some f → validate mem en = .error f) ∧
    (endFailure en.length evs = none →
      evs.length = (headerOf n).eventCount ∧ Passed (headerOf n).voiceCount evs ∧
      ∃ w, Walked true evs w ∧ validate mem en = .ok (w.derived, w.supplied)) := by
  obtain ⟨w, hr, hw⟩ := walkEvents_ok hevents
  subst hevs
  rw [validate_events hn h, hw]
  obtain ⟨hfails, hpasses⟩ := finishWalk_eq hr.walked en.length
  exact ⟨hfails, fun hend => ⟨hr.length, hr.passed, hpasses hend⟩⟩

end

/-- What a validation that passes has found (R36 to R41). -/
theorem validate_ok {mem : Memory} {en : Entry} {d : Derived} {lineEnd : Option Nat}
    (h : validate mem en = .ok (d, lineEnd)) : ∃ n evs w, readNumber (imageByte mem en) 14 0 = some n ∧
      evs = readEvents (imageByte mem en) (headerOf n).eventCount 14 ∧
      firstFailing (headerTests en.tuneId (headerOf n)) = none ∧ evs.length = (headerOf n).eventCount ∧
      Passed (headerOf n).voiceCount evs ∧ endFailure en.length evs = none ∧ Walked true evs w ∧ d = w.derived ∧ lineEnd = w.supplied := by
  cases hn : readNumber (imageByte mem en) 14 0 with
  | none =>
    rw [validate, show headerBytes = 14 from rfl, hn] at h
    cases h
  | some n =>
    cases hh : firstFailing (headerTests en.tuneId (headerOf n)) with
    | some o =>
      rw [validate_badHeader hn hh] at h
      cases h
    | none =>
      by_cases hevents : ∀ i < (headerOf n).eventCount,
          failureAt (imageByte mem en) (headerOf n).voiceCount i = none
      · obtain ⟨hfails, hpasses⟩ := validate_end hn hh hevents rfl
        cases he : endFailure en.length (readEvents (imageByte mem en) (headerOf n).eventCount 14) with
        | some f =>
          rw [hfails f he] at h
          cases h
        | none =>
          obtain ⟨hlen, hp, w, hw, hok⟩ := hpasses he
          rw [hok] at h
          cases h
          exact ⟨n, _, w, rfl, rfl, hh, hlen, hp, he, hw, rfl, rfl⟩
      · push Not at hevents
        classical
        obtain ⟨hi, hf⟩ := Nat.find_spec hevents
        obtain ⟨f, hf⟩ := Option.ne_none_iff_exists'.mp hf
        rw [validate_badEvent hn hh hi (fun j hj => ?_) hf] at h
        · cases h
        · have := Nat.find_min hevents hj
          by_contra hne
          exact this ⟨hj.trans hi, hne⟩

end Sys2Proof.Machine
end

section
/-! PROOF (O32). How a validation ends (R36 to R42): the walk's failures in their order, and what success and failure
leave. -/

namespace Sys2Proof.Machine

section
variable {s : State} {n : Nat} {en : Entry} (hr : s.inReset = false) (hv : s.library.validating = some (n, en))
include hr hv

/-- R41: the success of a validation that passes. -/
theorem execValidationSuccess_ok {d : Derived} {lineEnd : Option Nat}
    (h : validate s.library.mem en = .ok (d, lineEnd)) : exec .validationSuccess s = .next { s with
      library := s.library.succeed n en d lineEnd
      play := s.play.latch .loadDone } := by
  show Host.Outcome.next (s.event _) = _
  rw [State.event_awake hr]
  simp only [hv, h]
  rfl

theorem execValidationSuccess_error {f : WalkFailure} (h : validate s.library.mem en = .error f) :
    exec .validationSuccess s = .next s := by
  show Host.Outcome.next (s.event _) = _
  rw [State.event_awake hr]
  simp only [hv, h]

/-- R42: the failure of a validation that fails. -/
theorem execValidationFailure_error {f : WalkFailure} (h : validate s.library.mem en = .error f) :
    exec .validationFailure s = .next { s with
      library := s.library.endLoad n en.tuneId f.outcome f.event
      play := s.play.latch .loadFailed } := by
  show Host.Outcome.next (s.event _) = _
  rw [State.event_awake hr]
  simp only [hv, h]
  rfl

theorem execValidationFailure_ok {d : Derived} {lineEnd : Option Nat}
    (h : validate s.library.mem en = .ok (d, lineEnd)) : exec .validationFailure s = .next s := by
  show Host.Outcome.next (s.event _) = _
  rw [State.event_awake hr]
  simp only [hv, h]

end

/-- Settles O32: the walk one event at a time, its end, and the two events that report it. -/
theorem validationEnds : Obligations.ValidationEnds := by
  refine ⟨fun mem en n hn => ⟨fun o => validate_badHeader hn, fun hh => ⟨fun i f hi hbefore hf =>
    validate_badEvent hn hh hi hbefore hf, fun hevents => ?_⟩⟩, fun s n en hr hv => ⟨fun d lineEnd h => ?_, fun f h =>
    ⟨execValidationFailure_error hr hv h, execValidationSuccess_error hr hv h⟩⟩⟩
  · obtain ⟨hfails, hpasses⟩ := validate_end hn hh hevents rfl
    refine ⟨hfails, fun hend => ?_⟩
    obtain ⟨-, -, w, -, hok⟩ := hpasses hend
    exact ⟨_, _, hok⟩
  · refine ⟨(execValidationSuccess_ok hr hv h).trans ?_, execValidationFailure_ok hr hv h⟩
    cases lineEnd <;> rfl

end Sys2Proof.Machine
end

section
/-! PROOF (O33). What a validation that passes has found (R30 to R32, R37 to R41), from the events it passed and what
the walk knows of them. -/

namespace Sys2Proof.Machine

/-! ### Greatest end positions -/

theorem foldl_max_le_iff {l : List Nat} {a m : Nat} : l.foldl max a ≤ m ↔ a ≤ m ∧ ∀ x ∈ l, x ≤ m := by
  induction l generalizing a with
  | nil => simp
  | cons x l ih => rw [List.foldl_cons, ih, max_le_iff, List.forall_mem_cons, and_assoc]

theorem le_foldl_max {l : List Nat} {x : Nat} (h : x ∈ l) : x ≤ l.foldl max 0 := (foldl_max_le_iff.mp le_rfl).2 x h

/-- The greatest of some numbers is one of them. -/
theorem foldl_max_mem {l : List Nat} (a : Nat) : l.foldl max a ∈ a :: l := by
  induction l generalizing a with
  | nil => exact List.mem_cons_self
  | cons x l ih =>
    rw [List.foldl_cons]
    obtain h | h := List.mem_cons.mp (ih (max a x))
    · rw [h]
      obtain hmax | hmax := max_choice a x <;> simp [hmax]
    · simp [h]

theorem foldl_max_zero_mem {l : List Nat} (h : l ≠ []) : l.foldl max 0 ∈ l := by
  cases l with
  | nil => exact absurd rfl h
  | cons x l =>
    rw [List.foldl_cons, Nat.zero_max]
    exact foldl_max_mem x

/-- The greatest end position of some events is not below that of any of their notes. -/
theorem le_endOf {evs : List ScoreEvent} {ev : ScoreEvent} {x : Note} (hev : ev ∈ evs) (hx : x ∈ ev.notes) :
    ev.position + x.duration ≤ endOf evs :=
  calc ev.position + x.duration
    _ ≤ ev.stop := le_foldl_max (List.mem_map.mpr ⟨x, hx, rfl⟩)
    _ ≤ endOf evs := le_foldl_max (List.mem_map.mpr ⟨ev, hev, rfl⟩)

/-- The greatest end position of some events that have notes is that of one of them. -/
theorem endOf_mem {evs : List ScoreEvent} (h : evs ≠ []) (hnotes : ∀ ev ∈ evs, ev.notes ≠ []) :
    ∃ ev ∈ evs, ∃ x ∈ ev.notes, endOf evs = ev.position + x.duration := by
  obtain ⟨ev, hev, hstop⟩ := List.mem_map.mp (foldl_max_zero_mem (l := evs.map (·.stop)) (by simpa using h))
  obtain ⟨x, hx, hend⟩ := List.mem_map.mp
    (foldl_max_zero_mem (l := ev.notes.map (fun n => ev.position + n.duration)) (by simpa using hnotes ev hev))
  exact ⟨ev, hev, x, hx, hstop.symm.trans hend.symm⟩

/-! ### Events that pass (R31, R38, R39) -/

/-- R31, R39: an event in form: its notes in range and of different voices, and no LINE END in the amen. -/
def EventOk (vc : Nat) (ev : ScoreEvent) : Prop :=
  1 ≤ ev.notes.length ∧ (ev.notes.map (·.voice)).Nodup ∧ ¬ (ev.amen = true ∧ ev.lineEnd = true) ∧
  ∀ x ∈ ev.notes, 24 ≤ x.pitch ∧ x.pitch ≤ 108 ∧ 1 ≤ x.duration ∧ x.duration ≤ 9600 ∧
    ev.position + x.duration ≤ 16777215 ∧ x.voice < vc

section
variable {vc : Nat} {evs : List ScoreEvent} {ev : ScoreEvent}

theorem noteTests_none {position : Nat} {earlier : List Note} {x : Note}
    (h : firstFailing (noteTests vc position earlier x) = none) :
    (24 ≤ x.pitch ∧ x.pitch ≤ 108 ∧ 1 ≤ x.duration ∧ x.duration ≤ 9600 ∧ position + x.duration ≤ 16777215 ∧
      x.voice < vc) ∧ ∀ m ∈ earlier, m.voice ≠ x.voice := by
  rw [firstFailing_eq_none] at h
  simpa [noteTests, and_assoc, Nat.one_le_iff_ne_zero] using h

/-- R39: notes of which none fails. -/
theorem notesFailure_none {position : Nat} {notes : List Note} (h : notesFailure vc position notes = none) :
    (∀ x ∈ notes, 24 ≤ x.pitch ∧ x.pitch ≤ 108 ∧ 1 ≤ x.duration ∧ x.duration ≤ 9600 ∧
      position + x.duration ≤ 16777215 ∧ x.voice < vc) ∧ (notes.map (·.voice)).Nodup := by
  have hnote (j : Nat) (hj : j < notes.length) := noteTests_none (vc := vc) (position := position)
    (earlier := notes.take j) (x := notes[j]) (by
      simpa [hj] using List.findSome?_eq_none_iff.mp h j (List.mem_range.mpr hj))
  constructor
  · intro x hx
    obtain ⟨j, hj, rfl⟩ := List.getElem_of_mem hx
    exact (hnote j hj).1
  · rw [List.Nodup, List.pairwise_map, List.pairwise_iff_getElem]
    intro i j hi hj hij
    exact (hnote j hj).2 _ (List.mem_take_iff_getElem.mpr ⟨i, by omega, rfl⟩)

theorem eventOk_of_passes (h : eventFailure vc evs ev ev.notes.length = none) : EventOk vc ev := by
  obtain ⟨htests, hnotes, hflags⟩ := eventFailure_eq_none.mp h
  obtain ⟨hrange, hvoices⟩ := notesFailure_none hnotes
  have hcount := passes_of_firstFailing htests 3 rfl
  have hplace := passes_of_firstFailing hflags 0 rfl
  simp only [decide_eq_false_iff_not, not_or, not_lt] at hcount
  exact ⟨hcount.1, hvoices, of_decide_eq_false hplace, hrange⟩

theorem Passed.eventOk (h : Passed vc evs) : ∀ ev ∈ evs, EventOk vc ev := by
  induction h with
  | nil => nofun
  | snoc hp hev ih => simpa [or_imp, forall_and] using ⟨ih, eventOk_of_passes hev⟩

/-- R39: no more notes than voices. -/
theorem EventOk.notes_le (h : EventOk vc ev) : ev.notes.length ≤ vc := by
  obtain ⟨-, hvoices, -, hnotes⟩ := h
  have hsub : ev.notes.map (·.voice) ⊆ List.range vc := by
    intro v hv
    obtain ⟨x, hx, rfl⟩ := List.mem_map.mp hv
    exact List.mem_range.mpr (hnotes x hx).2.2.2.2.2
  simpa using (hvoices.subperm hsub).length_le

/-- R38.1: the first event stands at 0. -/
theorem Passed.head (h : Passed vc evs) : ∀ ev, evs.head? = some ev → ev.position = 0 := by
  induction h with
  | nil => nofun
  | @snoc es e hp he ih =>
    intro ev hev
    cases es with
    | nil =>
      cases hev
      have := passes_of_firstFailing (eventFailure_eq_none.mp he).1 0 rfl
      simpa using this
    | cons x es => exact ih ev hev

theorem countP_snoc_le {p : ScoreEvent → Bool} {m : Nat} (h : evs.countP p ≤ m) (hev : p ev = true → evs.countP p < m) :
    (evs ++ [ev]).countP p ≤ m := by
  rw [List.countP_append, List.countP_singleton]
  split
  · exact hev ‹_›
  · exact h

/-- R38.6, R38.7: the anchors and the LINE ENDs of events that pass. -/
theorem Passed.counts_le (h : Passed vc evs) : evs.countP (fun b => decide (b.amen = true) && b.anchor) ≤ 128 ∧
    evs.countP (fun b => decide (b.amen = false) && b.anchor) ≤ 128 ∧ (versesOf evs).countP (·.lineEnd) ≤ 16 := by
  rw [versesOf, List.countP_filter]
  induction h with
  | nil => simp
  | @snoc es e hp he ih =>
    obtain ⟨hamens, hverses, hlines⟩ := ih
    have hflags := passes_of_firstFailing (eventFailure_eq_none.mp he).2.2
    have hanchors := hflags 1 rfl
    have hline := hflags 2 rfl
    simp only [decide_eq_false_iff_not, not_and, not_le] at hanchors hline
    simp only [Bool.and_comm] at hline
    refine ⟨countP_snoc_le hamens fun h => ?_, countP_snoc_le hverses fun h => ?_, countP_snoc_le hlines fun h => ?_⟩ <;>
      simp only [Bool.and_eq_true, decide_eq_true_eq, Bool.not_eq_true'] at h
    · simpa only [h.1] using hanchors h.2
    · simpa only [h.1] using hanchors h.2
    · exact hline h.2 h.1

end

/-! ### The length of the image (R36, R40.3) -/

section
variable {mem : Memory} {en : Entry}

theorem lt_of_imageByte {o b : Nat} (h : imageByte mem en o = some b) : o < en.length := by
  by_contra hlt
  rw [imageByte, if_neg hlt] at h
  cases h

theorem le_of_readNumber {k o n : Nat} (h : readNumber (imageByte mem en) (k + 1) o = some n) :
    o + (k + 1) ≤ en.length := by
  induction k generalizing o n with
  | zero =>
    obtain ⟨hi, hhi, -⟩ := Option.bind_eq_some_iff.mp h
    exact lt_of_imageByte hhi
  | succ k ih =>
    obtain ⟨hi, -, h⟩ := Option.bind_eq_some_iff.mp h
    obtain ⟨lo, hlo, -⟩ := Option.bind_eq_some_iff.mp h
    have := ih hlo
    omega

theorem le_of_readNotes {k o : Nat} {notes : List Note} (h : readNotes (imageByte mem en) k o = some notes)
    (ho : o ≤ en.length) : o + 4 * k ≤ en.length := by
  induction k generalizing o notes with
  | zero => exact ho
  | succ k ih =>
    obtain ⟨n, hn, h⟩ := Option.bind_eq_some_iff.mp h
    obtain ⟨rest, hrest, -⟩ := Option.bind_eq_some_iff.mp h
    have := ih hrest (le_of_readNumber hn)
    simp only [show noteBytes = 4 from rfl] at this
    omega

/-- Events that are read lie within the image. -/
theorem bytesOf_readEvents_le (k : Nat) {o : Nat} (ho : o ≤ en.length) :
    o + bytesOf (readEvents (imageByte mem en) k o) ≤ en.length := by
  induction k generalizing o with
  | zero => exact ho
  | succ k ih =>
    cases hn : readNumber (imageByte mem en) 4 o with
    | none => simpa [readEvents, show eventBytes = 4 from rfl, hn, bytesOf] using ho
    | some n =>
      cases hnotes : readNotes (imageByte mem en) (eventOf n).2 (o + 4) with
      | none => simpa [readEvents, show eventBytes = 4 from rfl, hn, hnotes, bytesOf] using ho
      | some notes =>
        have hle := le_of_readNotes hnotes (le_of_readNumber hn)
        rw [← readNotes_length hnotes] at hle
        have := ih (o := o + (4 + 4 * notes.length)) (by omega)
        rw [readEvents_succ hn hnotes]
        simpa [bytesOf, Nat.add_assoc] using this

theorem offsetAfter_le {n k : Nat} (hn : readNumber (imageByte mem en) 14 0 = some n) :
    offsetAfter (readEvents (imageByte mem en) k 14) ≤ en.length :=
  bytesOf_readEvents_le k (by simpa using le_of_readNumber hn)

end

/-! ### The header and the derived values (R37, R40, R41) -/

/-- R37: a header of which no check fails. -/
theorem headerTests_none {id : Nat} {h : Header} (hh : firstFailing (headerTests id h) = none) :
    h.tuneId = id ∧ 1 ≤ h.voiceCount ∧ h.voiceCount ≤ 6 ∧ (∀ q ∈ h.priorities, q ≤ 3) ∧ 1 ≤ h.eventCount ∧
    h.eventCount ≤ 512 ∧ 64000 ≤ h.least ∧ h.least ≤ h.nominal ∧ h.nominal ≤ h.greatest ∧ h.greatest ≤ 512000 := by
  have htests := passes_of_firstFailing hh
  have hid := htests 0 rfl
  have hrange := htests 1 rfl
  have horder := htests 2 rfl
  simp only [decide_eq_false_iff_not, not_or, not_exists, not_and, not_lt, ne_eq, not_not, List.forall_mem_cons]
    at hid hrange horder
  obtain ⟨hvoices, hvoices', hpriorities, ⟨-, ⟨hleast, -⟩, ⟨-, hgreatest⟩, -⟩, hevents, hevents'⟩ := hrange
  exact ⟨hid, hvoices, hvoices', hpriorities, hevents, hevents', hleast, horder.1, horder.2, hgreatest⟩

section
variable {evs : List ScoreEvent} {w : Walk} {length vc : Nat}

/-- R40: events after which nothing fails. -/
theorem endFailure_none (h : endFailure length evs = none) :
    (∃ ev ∈ versesOf evs, ev.anchor = true) ∧ length ≤ offsetAfter evs := by
  rw [endFailure] at h
  split at h
  · cases h
  split at h
  · cases h
  rename_i hanchor
  split at h
  · cases h
  · rename_i hlen
    have hanchor : ∃ ev ∈ evs, ev.amen = false ∧ ev.anchor = true := by simpa using hanchor
    obtain ⟨ev, hev, hamen, hanchor⟩ := hanchor
    exact ⟨⟨ev, List.mem_filter.mpr ⟨hev, by rw [hamen]; rfl⟩, hanchor⟩, not_lt.mp hlen⟩

/-- R40.1: the walk supplies a LINE END exactly when the last verse event has none. -/
theorem Walked.supplied_eq_none (hw : Walked true evs w) (hv : versesOf evs ≠ []) :
    w.supplied = none ↔ ∃ ev, (versesOf evs).getLast? = some ev ∧ ev.lineEnd = true := by
  rw [← Option.isSome_eq_false_iff.trans Option.isNone_iff_eq_none, hw.supplied, List.getLast?_eq_getLast_of_ne_nil hv]
  simp

theorem Walked.lines_le (hw : Walked true evs w) (hp : Passed vc evs) : w.lines ≤ 16 := by
  cases hs : w.supplied with
  | none =>
    rw [hw.lines, hs]
    exact hp.counts_le.2.2
  | some o => exact hw.suppliedLines (by rw [hs]; rfl)

theorem Walked.one_le_lines (hw : Walked true evs w) (hv : versesOf evs ≠ []) : 1 ≤ w.lines := by
  rw [hw.lines]
  cases hs : w.supplied with
  | some o => exact Nat.le_add_left ..
  | none =>
    obtain ⟨ev, hlast, hline⟩ := (hw.supplied_eq_none hv).mp hs
    exact Nat.le_add_right_of_le (List.countP_pos_iff.mpr ⟨ev, List.mem_of_getLast? hlast, hline⟩)

/-- R41: the end of the amen is the greatest among its notes. -/
theorem Walked.amenEnd_spec (hw : Walked true evs w) (hp : Passed vc evs) {m : Nat} (hm : w.amenEnd = some m) :
    (∀ ev ∈ evs, ev.amen = true → ∀ x ∈ ev.notes, ev.position + x.duration ≤ m) ∧
    ∃ ev ∈ evs, ev.amen = true ∧ ∃ x ∈ ev.notes, m = ev.position + x.duration := by
  rw [hw.amenEnd] at hm
  obtain ⟨a, ha, rfl⟩ := Option.map_eq_some_iff.mp hm
  refine ⟨fun ev hev hamen x hx => le_endOf (List.mem_filter.mpr ⟨hev, hamen⟩) hx, ?_⟩
  have hne : evs.filter (·.amen) ≠ [] :=
    List.ne_nil_of_mem (List.mem_filter.mpr ⟨List.mem_of_find?_eq_some ha, List.find?_some ha⟩)
  obtain ⟨ev, hev, x, hx, hend⟩ := endOf_mem hne fun ev hev =>
    List.ne_nil_of_length_pos (hp.eventOk ev (List.mem_of_mem_filter hev)).1
  obtain ⟨hev, hamen⟩ := List.mem_filter.mp hev
  exact ⟨ev, hev, hamen, x, hx, hend⟩

end

/-- Settles O33: the header's ranges, the events that passed, and the derived values as the walk has counted them. -/
theorem validatedTunesAreInRange : Obligations.ValidatedTunesAreInRange := by
  intro mem en d lineEnd hok
  obtain ⟨n, evs, w, hn, hevs, hh, hlen, hp, hend, hw, rfl, rfl⟩ := validate_ok hok
  obtain ⟨hid, hvc, hvc', hpriorities, hec, hec', hleast, hln, hng, hgreatest⟩ := headerTests_none hh
  obtain ⟨⟨a, ha, hanchor⟩, hlong⟩ := endFailure_none hend
  obtain ⟨hamens, hverses, -⟩ := hp.counts_le
  have hv : versesOf evs ≠ [] := List.ne_nil_of_mem ha
  have hnotes : ∀ ev ∈ versesOf evs, ev.notes ≠ [] := fun ev hev =>
    List.ne_nil_of_length_pos (hp.eventOk ev (List.mem_of_mem_filter hev)).1
  obtain ⟨b, hb, x, hx, hlast⟩ := endOf_mem hv hnotes
  have hverseLength : w.verseLength = b.position + x.duration := hw.verseLength.trans hlast
  have hindex : w.index = (headerOf n).eventCount := hw.index.trans hlen
  have hverseAnchors : w.verseAnchors = (versesOf evs).countP (·.anchor) := by
    rw [hw.verseAnchors, versesOf, List.countP_filter]
    simp [Bool.and_comm]
  refine ⟨_, headerOf n, evs, versesOf evs, by rw [readTune, show headerBytes = 14 from rfl, hn]; rfl, rfl, hevs, rfl,
    hid, hvc, hvc', hpriorities, hleast, hln, hng, hgreatest, hec.trans hindex.ge, hindex.le.trans hec', hindex, ?_, ?_,
    hw.one_le_lines hv, hw.lines_le hp, ?_, hw.verseAnchors.le.trans hverses, hw.amenAnchors.le.trans hamens, ?_, Iff.rfl, ?_, hlen,
    hp.head, hp.pairwise, fun ev hev => ?_, ?_, hw.verseEvents, hverseAnchors, ?_, hw.supplied_eq_none hv, ?_,
    fun ev hev y hy => ?_, ⟨b, hb, x, hx, hverseLength⟩, hw.amenStart, fun m => hw.amenEnd_spec hp⟩
  · show 1 ≤ w.verseEvents
    rw [hw.verseEvents]
    exact List.length_pos_iff.mpr hv
  · show w.verseEvents ≤ w.index
    rw [hw.verseEvents, hw.index]
    exact List.length_filter_le ..
  · show 1 ≤ w.verseAnchors
    rw [hverseAnchors]
    exact List.countP_pos_iff.mpr ⟨a, ha, hanchor⟩
  · show w.verseLength ≤ 16777215
    rw [hverseLength]
    exact ((hp.eventOk b (List.mem_of_mem_filter hb)).2.2.2 x hx).2.2.2.2.1
  · show w.amenStart.isSome = true ↔ w.amenEnd.isSome = true
    rw [hw.amenStart, hw.amenEnd, Option.isSome_map, Option.isSome_map]
  · obtain ⟨hcount, hvoices, hplace, hrange⟩ := hp.eventOk ev hev
    exact ⟨hcount, (hp.eventOk ev hev).notes_le.trans hvc', hvoices, hplace, hrange⟩
  · exact le_antisymm hlong (hevs ▸ offsetAfter_le hn)
  · show w.amenAnchors = _
    rw [hw.amenAnchors]
    simp
  · show w.lines = _
    rw [hw.lines]
    cases w.supplied <;> simp
  · show _ ≤ w.verseLength
    rw [hw.verseLength]
    exact le_endOf hev hy

end Sys2Proof.Machine
end

section
/-! PROOF (O17). The headers of READY tunes (R30, R37) through every change of the library: what a load writes lies in
blocks of its own (R28), and validation reads the header it leaves. -/

namespace Sys2Proof.Machine

/-! ### Where entries lie in the storage (R27, R28) -/

section
variable {l : Library} {n m o p : Nat} {en x : Entry}

theorem entryOk_blocks (h : EntryOk en) : en.length ≤ 256 * en.blocks.length := by
  obtain ⟨-, -, -, -, hblocks, -⟩ := h
  rw [hblocks, blocksFor]
  simp only [show Config.blockBytes = 256 from rfl]
  omega

/-- An image byte lies in one of the entry's blocks. -/
theorem address_div_mem (h : EntryOk en) (ho : o < en.length) : en.address o / 256 ∈ en.blocks := by
  have hle := entryOk_blocks h
  have hlt : o / 256 < en.blocks.length := by omega
  rw [Entry.address, show Config.blockBytes = 256 from rfl, List.getD_eq_getElem _ _ hlt,
    show (en.blocks[o / 256] * 256 + o % 256) / 256 = en.blocks[o / 256] by omega]
  exact List.getElem_mem hlt

theorem Library.mem_others (hx : l.entry m = some x) (hne : m ≠ n) : x ∈ l.others n :=
  List.mem_filterMap.mpr ⟨some x, List.mem_eraseIdx_iff_getElem?.mpr ⟨m, hne, Option.join_eq_some_iff.mp hx⟩, rfl⟩

/-- The images of two entries lie apart. -/
theorem address_ne (h : LibraryOk l) (hn : l.entry n = some en) (hx : l.entry m = some x) (hne : m ≠ n)
    (ho : o < en.length) (hp : p < x.length) : x.address p ≠ en.address o := by
  intro heq
  obtain ⟨hok, -, hdisjoint, -⟩ := heldOk_cons.mp (heldOk_entry h hn)
  have hmem := address_div_mem (entryOk_of_entry h hx) hp
  rw [heq] at hmem
  exact hdisjoint _ (address_div_mem hok ho) x (Library.mem_others hx hne) hmem

/-- The bytes of an entry's image have addresses of their own. -/
theorem address_ne_of_lt (h : LibraryOk l) (hn : l.entry n = some en) (hp : p < o) (ho : o < en.length) :
    en.address p ≠ en.address o := by
  intro heq
  obtain ⟨hok, hnodup, -⟩ := heldOk_cons.mp (heldOk_entry h hn)
  have hle := entryOk_blocks hok
  exact hp.ne (Entry.address_inj hnodup (by omega) (by omega) heq)

/-- A written directory holds the entry written and the others as before. -/
theorem Library.entry_setEntry_cases {e : Option Entry} (h : (l.setEntry n e).entry m = some x) :
    (m = n ∧ e = some x) ∨ (m ≠ n ∧ l.entry m = some x) := by
  by_cases hne : m = n
  · subst hne
    rw [Library.entry_setEntry] at h
    split at h
    · exact .inl ⟨rfl, h⟩
    · rename_i hlt
      exact absurd ⟨rfl, Library.lt_of_entry h⟩ hlt
  · rw [Library.entry_setEntry_other l e (Ne.symm hne)] at h
    exact .inr ⟨hne, h⟩

theorem Library.entry_afterReset (h : l.afterReset.entry m = some x) : l.entry m = some x := by
  have h := Option.join_eq_some_iff.mp h
  rw [Library.afterReset, List.getElem?_map] at h
  obtain ⟨e, he, h⟩ := Option.map_eq_some_iff.mp h
  cases e with
  | none => cases h
  | some y =>
    simp only at h
    split at h
    · cases h
      exact Option.join_eq_some_iff.mpr he
    · cases h

end

/-! ### Headers -/

section
variable {mem mem' : Memory} {en en' : Entry}

/-- A number is read from its own bytes. -/
theorem readNumber_congr {get get' : Nat → Option Nat} {k o : Nat} (h : ∀ p, p < o + k → get p = get' p) :
    readNumber get k o = readNumber get' k o := by
  induction k generalizing o with
  | zero => rfl
  | succ k ih => rw [readNumber, readNumber, h o (by omega), ih fun p hp => h p (by omega)]

/-- R30, R37: the header in an entry's image holds its three periods in order and in range. -/
def HeaderOk (mem : Memory) (en : Entry) : Prop :=
  ∀ n, readNumber (imageByte mem en) 14 0 = some n → 64000 ≤ (headerOf n).least ∧
    (headerOf n).least ≤ (headerOf n).nominal ∧ (headerOf n).nominal ≤ (headerOf n).greatest ∧
    (headerOf n).greatest ≤ 512000

theorem headersOk_iff {l : Library} :
    HeadersOk l ↔ ∀ n en, l.entry n = some en → en.state = .ready → HeaderOk l.mem en := by
  constructor
  · intro h n en hn hr k hk
    exact h n en _ hn hr (by rw [readTune, show headerBytes = 14 from rfl, hk]; rfl)
  · intro h n en tune hn hr ht
    obtain ⟨k, hk, rfl⟩ := Option.map_eq_some_iff.mp ht
    exact h n en hn hr k hk

/-- A header is as it was when its bytes are. -/
theorem HeaderOk.congr (h : HeaderOk mem en) (hlen : en'.length = en.length) (hblocks : en'.blocks = en.blocks)
    (hread : ∀ p < 14, p < en.length → mem'.read (en.address p) = mem.read (en.address p)) : HeaderOk mem' en' := by
  intro n hn
  refine h n (Eq.trans (readNumber_congr fun p hp => ?_) hn)
  have haddress : en'.address p = en.address p := by rw [Entry.address, hblocks, Entry.address]
  rw [imageByte, imageByte, hlen, haddress]
  by_cases hp' : p < en.length
  · rw [if_pos hp', if_pos hp', hread p (by omega) hp']
  · rw [if_neg hp', if_neg hp']

/-- R37: validation passes headers in form alone. -/
theorem headerOk_of_validate {d : Derived} {lineEnd : Option Nat} (h : validate mem en = .ok (d, lineEnd)) :
    HeaderOk mem en := by
  obtain ⟨k, evs, w, hk, -, hh, -⟩ := validate_ok h
  obtain ⟨-, -, -, -, -, -, hperiods⟩ := headerTests_none hh
  intro n hn
  cases hk.symm.trans hn
  exact hperiods

/-- R40.1: a LINE END is supplied to an event of the image. -/
theorem supplied_of_validate {d : Derived} {o : Nat} (h : validate mem en = .ok (d, some o)) :
    14 ≤ o ∧ o + 4 ≤ en.length := by
  obtain ⟨k, evs, w, hk, hevs, -, -, -, -, hw, -, hsupplied⟩ := validate_ok h
  obtain ⟨ho, hle⟩ := hw.suppliedOffset o hsupplied.symm
  rw [hw.offset, hevs] at hle
  exact ⟨ho, hle.trans (offsetAfter_le hk)⟩

/-- R40: a supplied LINE END changes one byte. -/
theorem supplied_read {lineEnd : Option Nat} {a : Nat} (hmem : mem.wf = true)
    (h : ∀ o, lineEnd = some o → a ≠ en.address (o + 3)) : (supplied mem en lineEnd).read a = mem.read a := by
  cases lineEnd with
  | none => rfl
  | some o => exact Memory.read_write_other _ hmem (h o rfl)

end

/-! ### Every step -/

/-- Every change of the library keeps the headers of READY tunes. -/
theorem headersOk_move {l l' : Library} {inUse : Option Nat} (hmove : LibraryMove l inUse l') (hmem : l.mem.wf = true)
    (hlib : LibraryOk l) (h : HeadersOk l) : HeadersOk l' := by
  rw [headersOk_iff] at h ⊢
  intro m x hx hr
  cases hmove with
  | opened tuneId length ht =>
    obtain ⟨-, rfl⟩ | ⟨-, hx⟩ := (Library.entry_setEntry_cases hx).imp_left (And.imp_right Option.some.inj)
    · cases hr
    · exact h m x hx hr
  | stored n en bytes hl hb =>
    obtain ⟨hn, hs⟩ := Library.loading_some hl
    obtain ⟨-, he⟩ | ⟨hne, hx⟩ := Library.entry_setEntry_cases hx
    · cases he
      simp only [Entry.advance] at hr
      split at hr <;> cases hr
    · refine (h m x hx hr).congr rfl rfl fun p _ hp => writeImage_read_other en _ _ bytes hmem fun i hi => ?_
      exact address_ne hlib hn hx hne (by omega) hp
  | succeeded n en d lineEnd hv hd =>
    obtain ⟨hn, hs⟩ := Library.validating_some hv
    obtain ⟨-, he⟩ | ⟨hne, hx⟩ := Library.entry_setEntry_cases hx
    · cases he
      refine (headerOk_of_validate hd).congr rfl rfl fun p hp _ => supplied_read hmem fun o ho => ?_
      subst ho
      obtain ⟨h14, hlen⟩ := supplied_of_validate hd
      exact address_ne_of_lt hlib hn (by omega) (by omega)
    · refine (h m x hx hr).congr rfl rfl fun p _ hp => supplied_read hmem fun o ho => ?_
      subst ho
      obtain ⟨-, hlen⟩ := supplied_of_validate hd
      exact address_ne hlib hn hx hne (by omega) hp
  | ended n en tuneId outcome event hn hs =>
    obtain ⟨-, he⟩ | ⟨-, hx⟩ := Library.entry_setEntry_cases hx
    · cases he
    · exact h m x hx hr
  | retired n hu =>
    obtain ⟨-, he⟩ | ⟨-, hx⟩ := Library.entry_setEntry_cases hx
    · cases he
    · exact h m x hx hr

theorem headersOk_step {s t : State} (hmem : MemoryOk s) (hlib : LibraryOk s.library) (hs : HeadersOk s.library)
    (h : step s = .next t) : HeadersOk t.library := by
  cases step_changes h with
  | plays hp => rwa [hp.library]
  | loads hi hp hm => exact headersOk_move hm hmem hlib hs
  | lists hl hp hm => rwa [hl]
  | powerReset hl hi hp =>
    rw [hl]
    intro n en tune hn
    have hn := List.eq_of_mem_replicate (List.mem_of_getElem? (Option.join_eq_some_iff.mp hn))
    cases hn
  | preparedReset hl hi hp =>
    rw [hl, headersOk_iff]
    exact fun n en hn => headersOk_iff.mp hs n en (Library.entry_afterReset hn)

/-- Settles O17: the Score Reader, the tracker and its period through every move of playing, and the headers of READY
tunes through every change of the library. -/
theorem stepKeepsReaderAndTracker : Obligations.StepKeepsReaderAndTracker :=
  ⟨fun _ _ => readerOk_step, fun _ _ => trackerOk_step, fun _ _ => periodOk_step, fun _ _ => headersOk_step⟩

end Sys2Proof.Machine
end

section
/-! SUPPORT (O41). What playing keeps of the matcher (R93, R94): its mode, its merge window and its behaviour. Only
MATCH PUT, a change of behaviour and a reset write them, so the reply of MATCH PUT may be read from the play before
the candidates that a change leaves over are taken. -/

namespace Sys2Proof.Machine

/-- The mode, the merge window and the behaviour in force. -/
def Play.settings (p : Play) : MatchMode × Nat × MatchMode := (p.matcher.mode, p.matcher.merge, p.matcher.behaviour)

/-! ### Keying (R154 to R168) -/

section
variable (e : Env) (i : Nat) (p : Play)

@[simp] theorem Play.countIf_matcher (b : Bool) (c : Counter) : (p.countIf b c).matcher = p.matcher := by
  cases b <;> rfl

@[simp] theorem pushIfDue_matcher : (pushIfDue e i p).matcher = p.matcher := by
  unfold pushIfDue
  repeat' split
  all_goals rfl

@[simp] theorem rederive_matcher : (rederive e i p).matcher = p.matcher := by
  unfold rederive
  split <;> simp

@[simp] theorem unlink_matcher : (unlink e i p).matcher = p.matcher := by
  unfold unlink
  split
  · rfl
  · split <;> simp

@[simp] theorem retire_matcher : (retire e i p).matcher = p.matcher := by
  unfold retire
  split
  · rfl
  · simp only
    split
    · simp
    · split <;> simp

@[simp] theorem keyRecord_matcher : (keyRecord e i p).matcher = p.matcher := by
  unfold keyRecord
  split
  · rfl
  · split
    · simp only
      split <;> simp
    · rfl

@[simp] theorem joinRecord_matcher (r : KeyRecord) (sp : Span) (n : NoteIn) (stop : Nat) :
    (joinRecord e i r sp n stop p).matcher = p.matcher := by
  simp [joinRecord]

@[simp] theorem placeRecord_matcher (n : NoteIn) : (placeRecord e n i p).matcher = p.matcher := by
  unfold placeRecord
  cases p.latest n with
  | none =>
    simp only
    split <;> simp
  | some x =>
    simp only
    split <;> simp

@[simp] theorem newRecord_matcher (n : NoteIn) : (newRecord e n p).matcher = p.matcher := by
  unfold newRecord
  split
  · simp
  · split <;> simp

@[simp] theorem takeNote_matcher (n : NoteIn) : (takeNote e n p).matcher = p.matcher := by
  unfold takeNote
  simp only
  repeat' split
  all_goals simp

/-- A fold of operations that leave the matcher leaves it. -/
theorem foldl_matcher {α : Type} {f : Play → α → Play} (h : ∀ q a, (f q a).matcher = q.matcher) (l : List α) :
    (l.foldl f p).matcher = p.matcher := by
  induction l generalizing p with
  | nil => rfl
  | cons a l ih => rw [List.foldl_cons, ih, h]

@[simp] theorem handNote_matcher (reg : Registration) (tune : Tune) (origin : Origin) (tag position : Nat)
    (note : Note) : (handNote e reg tune origin tag position p note).matcher = p.matcher := by
  refine foldl_matcher p (fun q route => ?_) _
  unfold handOnRoute
  split <;> simp

@[simp] theorem takeOnTime_matcher : (takeOnTime e i p).matcher = p.matcher := by
  unfold takeOnTime
  split <;> simp

@[simp] theorem takeOffTime_matcher : (takeOffTime e i p).matcher = p.matcher := by
  unfold takeOffTime
  split <;> simp

/-! ### Following the reference (R118) -/

/-- A play with the same matcher has the same settings. -/
theorem settings_of_matcher {q : Play} (h : q.matcher = p.matcher) : q.settings = p.settings := by
  simp only [Play.settings, h]

@[simp] theorem Play.latch_settings (l : Latch) : (p.latch l).settings = p.settings := rfl
@[simp] theorem Play.push_settings (d : Due) : (p.push d).settings = p.settings := rfl
@[simp] theorem Play.countIf_settings (b : Bool) (c : Counter) : (p.countIf b c).settings = p.settings :=
  settings_of_matcher p (Play.countIf_matcher p b c)

@[simp] theorem deriveExpiries_settings : (deriveExpiries e p).settings = p.settings := by
  rw [deriveExpiries_eq]
  rfl

@[simp] theorem deriveWindow_settings : (deriveWindow e p).settings = p.settings := by
  rw [deriveWindow_eq]
  rfl

@[simp] theorem trackerUpdate_settings : (trackerUpdate e p).settings = p.settings :=
  deriveExpiries_settings e (retime e p)

@[simp] theorem enterHold_settings (entry : HoldEntry) (f : Fermata) : (enterHold e entry f p).settings = p.settings :=
  deriveExpiries_settings e _

/-! ### Reports (R91, R96 to R98, R115) -/

@[simp] theorem takeMiss_settings : (takeMiss p).settings = p.settings := by
  rw [takeMiss_eq]
  rfl

@[simp] theorem closeWindow_settings : (closeWindow e p).settings = p.settings := by
  unfold closeWindow
  split
  · rfl
  · simp only [deriveWindow_settings, takeMiss_settings]
    rfl

@[simp] theorem takeCorrection_settings (a : Nat) (t : Tick) (tag : Option Nat) :
    (takeCorrection e a t tag p).settings = p.settings := by
  unfold takeCorrection
  simp only
  split
  · rw [trackerUpdate_settings]
    split <;> simp only [Play.latch_settings, Play.countIf_settings] <;> rfl
  · rfl

@[simp] theorem takeFirstArrival_settings (c : Nat) (t : Tick) :
    (takeFirstArrival e c t p).settings = p.settings := by
  unfold takeFirstArrival testReport
  split
  · split
    · split <;> rfl
    · split
      · simp only [matchAnchor, deriveWindow_settings, takeCorrection_settings]
        rfl
      · rfl
  · rfl

/-! ### Sections and items (R137, R138, R143 to R146) -/

@[simp] theorem itemEnd_settings (cause : EndCause) : (itemEnd cause p).settings = p.settings := by
  rw [itemEnd_eq]
  rfl

@[simp] theorem startSection_settings : (startSection e p).settings = p.settings := by
  unfold startSection trackerSectionStart
  split
  · simp only [trackerUpdate_settings]
    split <;> rfl
  · rfl

@[simp] theorem completeApply_settings : (completeApply e p).settings = p.settings := by
  unfold completeApply beginGap
  split
  · simp only
    split
    · split
      · exact startSection_settings e _
      · rfl
    · rfl
  · rfl

@[simp] theorem prepare_settings : (prepare e i p).settings = p.settings := by
  unfold prepare
  simp only
  split
  · exact completeApply_settings e _
  · rfl

theorem takeNext_settings (next : Nat) {go : Play → Play} (h : ∀ q, (go q).settings = q.settings) :
    (takeNext e next go p).settings = p.settings := by
  unfold takeNext
  split
  · rw [h]
    rfl
  · rfl

@[simp] theorem endAction_settings (action : EndAction) : (endAction e action i p).settings = p.settings := by
  unfold endAction
  split
  · rfl
  · simp only
    split
    · rfl
    · exact takeNext_settings e _ _ fun _ => rfl
    · exact takeNext_settings e _ _ (prepare_settings e 0)

@[simp] theorem trackerSectionEnd_settings : (trackerSectionEnd p).settings = p.settings := by
  unfold trackerSectionEnd
  simp only
  split <;> rfl

@[simp] theorem endSection_settings : (endSection e p).settings = p.settings := by
  have ended : (matcherSectionEnd (trackerSectionEnd p)).settings = p.settings := trackerSectionEnd_settings p
  unfold endSection
  simp only
  split
  · split
    · rw [endAction_settings, itemEnd_settings]
      exact ended
    · rw [itemEnd_settings]
      exact ended
  · rw [prepare_settings]
    exact ended

/-! ### Scheduling (R139 to R141) -/

@[simp] theorem deriveScheduling_settings : (deriveScheduling e p).settings = p.settings := by
  rw [deriveScheduling_eq]
  rfl

@[simp] theorem setFermata_settings (f : Fermata) : (setFermata e f p).settings = p.settings := by
  rw [setFermata, deriveFermata_eq]
  rfl

@[simp] theorem scheduleEvent_settings (item : Item) (tune : Tune) (sec : Section) (k : Nat) (ev : ScoreEvent) :
    (scheduleEvent e item tune sec k ev p).settings = p.settings := by
  have noted := settings_of_matcher p (foldl_matcher p
    (handNote_matcher e · (e.registration (sectionRegistration item sec)) tune (originOf sec) p.reader.tag ev.position)
    ev.notes)
  unfold scheduleEvent
  simp only [deriveScheduling_settings, Play.push_settings]
  split
  · exact (setFermata_settings e _ _).trans noted
  · exact noted

@[simp] theorem schedule_settings : (schedule e p).settings = p.settings := by
  unfold schedule
  split
  · split
    · exact scheduleEvent_settings e p _ _ _ _ _
    · rfl
  · rfl

/-! ### Expiries taken at once -/

@[simp] theorem takeWindowClose_settings : (takeWindowClose e p).settings = p.settings := by
  unfold takeWindowClose
  split <;> simp

@[simp] theorem takeFermata_settings : (takeFermata e p).settings = p.settings := by
  unfold takeFermata
  split
  · split <;> simp
  · rfl

@[simp] theorem testSectionEnd_settings : (testSectionEnd e p).settings = p.settings := by
  unfold testSectionEnd
  split <;> simp

@[simp] theorem takeDue_settings (d : Due) : (takeDue e d p).settings = p.settings := by
  cases d with
  | onTime i => exact settings_of_matcher p (takeOnTime_matcher e i p)
  | offTime i => exact settings_of_matcher p (takeOffTime_matcher e i p)
  | windowClose => exact takeWindowClose_settings e p
  | scheduling => exact schedule_settings e p
  | fermata => exact takeFermata_settings e p
  | sectionTest => exact testSectionEnd_settings e p

@[simp] theorem settle_settings (n : Nat) : (settle e n p).settings = p.settings :=
  settle_induct (P := fun q => q.settings = p.settings) (fun _ _ h => h)
    (fun d q h => (takeDue_settings e q d).trans h) n rfl

end

end Sys2Proof.Machine
end

section
/-! SUPPORT (O38, O39, O41). The matcher's behaviour derived again (R94, R102) as a change of the play alone, with
what each change does, and the change of the live channels (R82). -/

namespace Sys2Proof.Machine

/-! ### Live channels (R71, R82) -/

theorem Listening.live_iff (l : Listening) (c : Nat) : l.live c = true ↔
    ∃ ch inp, l.channels[c]? = some ch ∧ ch.params.enabled = true ∧ l.inputs[c / 2]? = some inp ∧
      inp.present = true := by
  simp only [Listening.live, inputOf, Bool.and_eq_true, Option.any_eq_true]
  constructor
  · rintro ⟨⟨ch, hch, he⟩, inp, hinp, hp⟩
    exact ⟨ch, inp, hch, he, hinp, hp⟩
  · rintro ⟨ch, inp, hch, he, hinp, hp⟩
    exact ⟨⟨ch, hch, he⟩, inp, hinp, hp⟩

/-! ### The candidates held, in the order of their times (R102) -/

/-- A candidate goes to its place among those that rise in time. -/
theorem insertByTime_append {x : Nat × Candidate} {before after : List (Nat × Candidate)}
    (hb : ∀ y ∈ before, isAfter x.2.time y.2.time = true) (ha : ∀ y ∈ after, isAfter x.2.time y.2.time = false) :
    insertByTime x (before ++ after) = before ++ x :: after := by
  induction before with
  | nil =>
    cases after with
    | nil => rfl
    | cons y rest => simp [insertByTime, ha y]
  | cons y rest ih =>
    have hy := hb y (by simp)
    simp only [List.cons_append, insertByTime, hy, if_true, ih fun z hz => hb z (by simp [hz])]

theorem isAfter_irrefl (a : Tick) : isAfter a a = false := by
  simp [isAfter, timeDiff]

theorem isAfter_asymm {a b : Tick} (h : isAfter a b = true) : isAfter b a = false := by
  have hlt := a.isLt
  have hlt' := b.isLt
  simp only [isAfter, timeDiff, BitVec.toInt_eq_toNat_cond, BitVec.toNat_sub, decide_eq_true_eq,
    decide_eq_false_iff_not] at h ⊢
  omega

/-- Candidates that are inserted one by one come to stand as a list that rises in time has them. -/
theorem foldr_insertByTime {held : List (Nat × Candidate)}
    (hs : held.Pairwise (fun x y => isAfter y.2.time x.2.time = true)) (l : List (Nat × Candidate)) (hl : l.Nodup)
    (hsub : ∀ x ∈ l, x ∈ held) : l.foldr insertByTime [] = held.filter (· ∈ l) := by
  induction l with
  | nil => simp
  | cons x l ih =>
    obtain ⟨hx, hl⟩ := List.nodup_cons.mp hl
    rw [List.foldr_cons, ih hl fun y hy => hsub y (by simp [hy])]
    obtain ⟨before, after, rfl⟩ := List.append_of_mem (hsub x (by simp))
    obtain ⟨-, hxa, hb⟩ := List.pairwise_append.mp hs
    have hbx : ∀ y ∈ before, isAfter x.2.time y.2.time = true := fun y hy => hb y hy x (by simp)
    have hax : ∀ y ∈ after, isAfter y.2.time x.2.time = true := (List.pairwise_cons.mp hxa).1
    have others : ∀ part : List (Nat × Candidate), (∀ y ∈ part, y ≠ x) →
        part.filter (· ∈ x :: l) = part.filter (· ∈ l) := fun part hp =>
      List.filter_congr fun y hy => by simp [hp y hy]
    have hbne : ∀ y ∈ before, y ≠ x := fun y hy heq => by simpa [heq, isAfter_irrefl] using hbx y hy
    have hane : ∀ y ∈ after, y ≠ x := fun y hy heq => by simpa [heq, isAfter_irrefl] using hax y hy
    rw [List.filter_append, List.filter_append, List.filter_cons_of_neg (by simpa using hx),
      List.filter_cons_of_pos (by simp), others before hbne, others after hane]
    exact insertByTime_append (fun y hy => hbx y (List.mem_of_mem_filter hy))
      fun y hy => isAfter_asymm (hax y (List.mem_of_mem_filter hy))

/-- The candidates held are the one list of them that rises in time. -/
theorem heldCandidates_eq {m : Matcher} {held : List (Nat × Candidate)}
    (hs : held.Pairwise (fun x y => isAfter y.2.time x.2.time = true))
    (hm : ∀ c k, (c, k) ∈ held ↔ c < 4 ∧ m.candidate c = some k) : heldCandidates m = held := by
  have hmem : ∀ x, x ∈ (List.range 4).filterMap (fun c => (m.candidate c).map (fun k => (c, k))) ↔ x ∈ held := by
    rintro ⟨c, k⟩
    simp [hm]
  have hnodup : ((List.range 4).filterMap (fun c => (m.candidate c).map (fun k => (c, k)))).Nodup := by
    refine List.Nodup.filterMap (fun c d x hc hd => ?_) List.nodup_range
    obtain ⟨k, -, rfl⟩ := Option.map_eq_some_iff.mp hc
    obtain ⟨k', -, heq⟩ := Option.map_eq_some_iff.mp hd
    exact (congrArg Prod.fst heq).symm
  rw [heldCandidates, show Config.channels = 4 from rfl, foldr_insertByTime hs _ hnodup fun x hx => (hmem x).mp hx]
  exact List.filter_eq_self.mpr fun x hx => by simpa using (hmem x).mpr hx

/-! ### The behaviour derived again (R94, R102) -/

/-- The candidates that a change leaves over are taken as arriving reports. -/
def takeHeld (e : Env) (held : List (Nat × Candidate)) (p : Play) : Play :=
  held.foldl (fun p x => settle e settleFuel (takeFirstArrival e x.1 x.2.time p)) p

/-- The play once the behaviour is derived again from this number of live channels. -/
def derivedPlay (e : Env) (live : Nat) (p : Play) : Play :=
  let b := behaviourFor p.matcher.mode live
  if b = p.matcher.behaviour then p
  else takeHeld e (if b = .firstArrival then heldCandidates p.matcher else [])
    ((p.setMatcher (p.matcher.inBehaviour b)).latch .matchMode)

theorem State.takeCandidates_eq (held : List (Nat × Candidate)) (s : State) :
    s.takeCandidates held = { s with play := takeHeld s.toEnv held s.play } := by
  induction held generalizing s with
  | nil => rfl
  | cons x rest ih => exact ih _

/-- Deriving the behaviour again changes the play alone. -/
theorem State.deriveBehaviour_eq (s : State) :
    s.deriveBehaviour = { s with play := derivedPlay s.toEnv s.listening.liveCount s.play } := by
  simp only [State.deriveBehaviour, derivedPlay]
  split
  · rfl
  · rw [State.takeCandidates_eq]

section
variable {e : Env} {live : Nat} {p : Play}

theorem derivedPlay_same (h : p.matcher.behaviour = behaviourFor p.matcher.mode live) : derivedPlay e live p = p :=
  if_pos h.symm

theorem derivedPlay_agreement (hp : p.matcher.behaviour = .firstArrival)
    (hb : behaviourFor p.matcher.mode live = .agreement) : derivedPlay e live p = { p with
      matcher := { p.matcher with behaviour := .agreement }, latches := p.latches ||| 8#19 } := by
  simp only [derivedPlay, hb, hp]
  rfl

theorem derivedPlay_firstArrival (hp : p.matcher.behaviour = .agreement)
    (hb : behaviourFor p.matcher.mode live = .firstArrival) {held : List (Nat × Candidate)}
    (hs : held.Pairwise (fun x y => isAfter y.2.time x.2.time = true))
    (hm : ∀ c k, (c, k) ∈ held ↔ c < 4 ∧ p.matcher.candidate c = some k) : derivedPlay e live p =
      takeHeld e held { p with
        matcher := { p.matcher with
          behaviour := .firstArrival, candidates := p.matcher.candidates.map (fun _ => none) }
        latches := p.latches ||| 8#19 } := by
  simp only [derivedPlay, hb, hp, heldCandidates_eq hs hm]
  rfl

theorem takeHeld_settings (held : List (Nat × Candidate)) : (takeHeld e held p).settings = p.settings := by
  induction held generalizing p with
  | nil => rfl
  | cons x rest ih =>
    exact ih.trans ((settle_settings e _ _).trans (takeFirstArrival_settings e p x.1 x.2.time))

/-- R94: the behaviour is the one in force, and mode and merge window stay, whatever the candidates taken do. -/
theorem derivedPlay_settings : (derivedPlay e live p).settings =
    (p.matcher.mode, p.matcher.merge, behaviourFor p.matcher.mode live) := by
  simp only [derivedPlay]
  split
  · rename_i h
    rw [h]
    rfl
  · rw [takeHeld_settings]
    rfl

end

/-! ### A change of the live channels (R82, R102) -/

/-- The candidates of the channels that stop being live are dropped, and the behaviour is derived again. -/
theorem State.setListening_eq (s : State) (l : Listening) : s.setListening l = State.deriveBehaviour { s with
    listening := l
    play := { s.play with matcher := { s.play.matcher with
      candidates := mapFrom (fun k x => if s.listening.live k = true ∧ l.live k = false then none else x) 0
        s.play.matcher.candidates } } } := by
  simp only [State.setListening, dropCandidates, Play.setMatcher, Bool.and_eq_true, Bool.not_eq_true']

/-- When no channel stops being live, no candidate is dropped. -/
theorem State.setListening_of_live {s : State} {l : Listening} (h : ∀ c, s.listening.live c = true → l.live c = true) :
    s.setListening l = State.deriveBehaviour { s with listening := l } := by
  rw [State.setListening_eq, mapFrom_id]
  intro c k _
  refine if_neg fun ⟨hold, hnew⟩ => ?_
  rw [h _ hold] at hnew
  cases hnew

end Sys2Proof.Machine
end

section
/-! PROOF (O40). The work of one frame of a channel (R75 to R81): an equation for each way in which the frame can
end, and what every frame does to the level. -/

namespace Sys2Proof.Machine

section
variable {ch : Channel} {sum : Nat} {now : Tick}

/-! ### The level and the onset test (R75, R77) -/

/-- An eighth of the difference, rounded down, never takes the level below 0. -/
theorem levelAfter_eq (level sum : Nat) : (levelAfter level sum : Int) = level + ((sum : Int) - level) / 8 := by
  simp only [levelAfter]
  omega

theorem levelAfter_le {level sum bound : Nat} (hl : level ≤ bound) (hs : sum ≤ bound) :
    levelAfter level sum ≤ bound := by
  have := levelAfter_eq level sum
  omega

theorem refractoryRun_iff :
    refractoryRun ch now = true ↔ ∀ o, ch.lastOnset = some o → (ch.params.refractory : Int) ≤ timeDiff now o.frame := by
  unfold refractoryRun
  cases ch.lastOnset <;> simp

/-- R77: the conditions of an onset. -/
theorem makesOnset_iff : makesOnset ch sum now = true ↔
    (∀ o, ch.lastOnset = some o → (ch.params.refractory : Int) ≤ timeDiff now o.frame) ∧
      (16 + ch.params.rise) * ch.level ≤ 16 * sum ∧ ch.params.floor ≤ sum := by
  simp only [makesOnset, Bool.and_eq_true, refractoryRun_iff, decide_eq_true_eq, and_assoc]

theorem meetsRatio_iff :
    ch.meetsRatio sum = true ↔ 16 * levelAfter ch.level sum ≤ ch.params.ratio * ch.peakAfter sum := by
  simp only [Channel.meetsRatio, decide_eq_true_eq]

/-! ### How a frame ends (R78 to R80) -/

theorem workFrame_onset (h : makesOnset ch sum now = true) :
    workFrame ch sum now = (ch.onset sum now, .onset (reportTime ch now) sum) := by
  simp [workFrame, h]

theorem workFrame_quiet (h : makesOnset ch sum now = false) (hv : ch.voiced = false) :
    workFrame ch sum now = ({ ch with level := levelAfter ch.level sum }, .none) := by
  simp [workFrame, makesRelease, h, hv]

/-- A frame above the release ratio ends the release run. -/
theorem workFrame_sounding (h : makesOnset ch sum now = false) (hv : ch.voiced = true)
    (hr : ch.meetsRatio sum = false) : workFrame ch sum now =
      ({ ch with level := levelAfter ch.level sum, peak := some (ch.peakAfter sum), run := 0, runStart := none },
        .none) := by
  simp [workFrame, makesRelease, Channel.sustained, h, hv, hr]

/-- A frame at the release ratio makes the release run one frame longer, while it is still too short. -/
theorem workFrame_fading (h : makesOnset ch sum now = false) (hv : ch.voiced = true)
    (hr : ch.meetsRatio sum = true) (hc : ch.run + 1 < ch.params.confirm) : workFrame ch sum now =
      ({ ch with
          level := levelAfter ch.level sum, peak := some (ch.peakAfter sum), run := ch.run + 1
          runStart := some (ch.runFrom now) }, .none) := by
  simp [workFrame, makesRelease, Channel.sustained, h, hv, hr, hc]

theorem workFrame_release (h : makesOnset ch sum now = false) (hv : ch.voiced = true)
    (hr : ch.meetsRatio sum = true) (hc : ch.params.confirm ≤ ch.run + 1) :
    workFrame ch sum now = (ch.released sum now, .release (releaseTime ch now)) := by
  simp [workFrame, makesRelease, h, hv, hr, hc]

/-! ### What every frame does -/

theorem workFrame_params (ch : Channel) (sum : Nat) (now : Tick) : (workFrame ch sum now).1.params = ch.params := by
  unfold workFrame Channel.sustained
  repeat' split
  all_goals rfl

theorem workFrame_level (ch : Channel) (sum : Nat) (now : Tick) :
    (workFrame ch sum now).1.level = levelAfter ch.level sum := by
  unfold workFrame Channel.sustained
  repeat' split
  all_goals rfl

/-- Only an onset writes the last onset. -/
theorem workFrame_lastOnset (h : makesOnset ch sum now = false) :
    (workFrame ch sum now).1.lastOnset = ch.lastOnset := by
  rw [workFrame, if_neg (by simp [h])]
  unfold Channel.sustained
  repeat' split
  all_goals rfl

end

/-- Settles O40: each end of a frame by its equation. -/
theorem frameWork : Obligations.FrameWork := by
  intro ch sum now hl hs
  have hlevel := workFrame_level ch sum now
  refine ⟨(workFrame ch sum now).1, (workFrame ch sum now).2, rfl, workFrame_params ch sum now,
    hlevel ▸ levelAfter_eq ch.level sum, hlevel ▸ levelAfter_le hl hs, fun honset => ?_, fun hno => ?_⟩
  · rw [workFrame_onset (makesOnset_iff.mpr honset)]
    exact ⟨rfl, rfl, rfl, rfl, rfl, rfl, rfl⟩
  · have hno : makesOnset ch sum now = false := by rwa [← Bool.not_eq_true, makesOnset_iff]
    refine ⟨workFrame_lastOnset hno, fun hv => ?_, fun hv peak hpeak => ?_⟩
    · rw [workFrame_quiet hno hv]
      exact ⟨rfl, rfl⟩
    · have hpeak : peak = ch.peakAfter sum := by rw [hpeak, hlevel, Channel.peakAfter]
      rw [hlevel, hpeak, ← meetsRatio_iff]
      refine ⟨fun hr => ?_, fun hr start hstart => ⟨fun hc => ?_, fun hc => ?_⟩⟩
      · rw [workFrame_sounding hno hv (Bool.not_eq_true _ ▸ hr)]
        exact ⟨rfl, hv, rfl, rfl, rfl, rfl⟩
      · rw [workFrame_fading hno hv hr hc, hstart]
        exact ⟨rfl, hv, rfl, rfl, rfl, rfl⟩
      · rw [workFrame_release hno hv hr hc, hstart]
        exact ⟨rfl, rfl, rfl, rfl, rfl, rfl⟩

end Sys2Proof.Machine
end

section
/-! PROOF (O39). Sample pairs, the frames they complete and the loss of an input (R68 to R70, R74 to R82). -/

namespace Sys2Proof.Machine

/-! ### Samples (R68) -/

/-- The number of a list of bits, the most significant first. -/
def bitsNumber (l : List Bool) : Nat := l.foldl (fun acc b => 2 * acc + b.toNat) 0

theorem sampleOf_eq (bits : List Bool) :
    sampleOf bits = BitVec.ofNat 16 (bitsNumber ((bits ++ List.replicate 16 false).take 16)) := rfl

theorem bitsNumber_snoc (l : List Bool) (b : Bool) : bitsNumber (l ++ [b]) = 2 * bitsNumber l + b.toNat := by
  simp [bitsNumber]

theorem testBit_bitsNumber (l : List Bool) {j : Nat} (hj : j < l.length) :
    (bitsNumber l).testBit j = l.getD (l.length - 1 - j) false := by
  induction l using List.reverseRecOn generalizing j with
  | nil => simp at hj
  | append_singleton l b ih =>
    rw [bitsNumber_snoc]
    cases j with
    | zero => cases b <;> simp [Nat.testBit_zero]
    | succ j =>
      simp only [List.length_append, List.length_cons, List.length_nil] at hj ⊢
      have hb := b.toNat_lt
      rw [Nat.testBit_succ, show (2 * bitsNumber l + b.toNat) / 2 = bitsNumber l by omega, ih (by omega),
        List.getD_append _ _ _ _ (by omega)]
      congr 1
      omega

/-- The zeros that complete a word are what it reads beyond its end. -/
theorem completed_getD (bits : List Bool) {i : Nat} (hi : i < 16) :
    ((bits ++ List.replicate 16 false).take 16).getD i false = bits.getD i false := by
  rw [List.getD_eq_getElem?_getD, List.getD_eq_getElem?_getD, List.getElem?_take_of_lt hi, List.getElem?_append]
  split
  · rfl
  · rename_i h
    rw [List.getElem?_eq_none (Nat.le_of_not_lt h), List.getElem?_replicate]
    split <;> rfl

theorem sampleOf_getMsbD (bits : List Bool) {i : Nat} (hi : i < 16) :
    (sampleOf bits).getMsbD i = bits.getD i false := by
  have hlen : ((bits ++ List.replicate 16 false).take 16).length = 16 := by simp
  have hbit := testBit_bitsNumber ((bits ++ List.replicate 16 false).take 16) (j := 16 - 1 - i) (by omega)
  rw [hlen, show 16 - 1 - (16 - 1 - i) = i by omega, completed_getD bits hi] at hbit
  rw [BitVec.getMsbD, sampleOf_eq, BitVec.getLsbD_ofNat, hbit, decide_eq_true hi,
    decide_eq_true (show 16 - 1 - i < 16 by omega), Bool.true_and, Bool.true_and]

/-! ### Live channels of an input with a pair (R69, R82) -/

section
variable {l : Listening} {i : Nat} {a b : AudioInput}

theorem Listening.present_setInput (ha : l.inputs[i]? = some a) (hb : b.present = true) :
    ((l.setInput i b).inputs[i]?).any (·.present) = true := by
  rw [Listening.setInput, List.getElem?_set_self (List.getElem?_eq_some_iff.mp ha).1]
  exact hb

/-- A PRESENT input takes no channel's life. -/
theorem Listening.live_setInput_of_live (ha : l.inputs[i]? = some a) (hb : b.present = true) {c : Nat}
    (h : l.live c = true) : (l.setInput i b).live c = true := by
  obtain ⟨ch, inp, hch, he, hinp, hp⟩ := (l.live_iff c).mp h
  rw [Listening.live_iff]
  by_cases hc : i = c / 2
  · have hi := (List.getElem?_eq_some_iff.mp ha).1
    exact ⟨ch, b, hch, he, by rw [Listening.setInput, ← hc, List.getElem?_set_self hi], hb⟩
  · exact ⟨ch, inp, hch, he, by rw [Listening.setInput, List.getElem?_set_ne hc, hinp], hp⟩

end

/-! ### The frame of an input (R74, R81) -/

section
variable {l : Listening} {c sum : Nat} {now : Tick}

theorem Listening.live_of_present (hp : (l.inputs[c / 2]?).any (·.present) = true) :
    l.live c = (l.channels[c]?).any (fun ch => ch.params.enabled) := by
  rw [Listening.live, inputOf, hp, Bool.and_true]

theorem Listening.reportOf_eq (hp : (l.inputs[c / 2]?).any (·.present) = true) {ch : Channel}
    (hch : l.channels[c]? = some ch) :
    l.reportOf c sum now = if ch.params.enabled = true then (workFrame ch sum now).2 else .none := by
  simp [Listening.reportOf, Listening.live_of_present hp, hch]

theorem Listening.workChannel_inputs : (l.workChannel c sum now).inputs = l.inputs := by
  unfold Listening.workChannel
  split <;> rfl

/-- An enabled channel of a PRESENT input works its frame, and no other channel changes. -/
theorem Listening.workChannel_getElem? (hp : (l.inputs[c / 2]?).any (·.present) = true) (k : Nat) :
    (l.workChannel c sum now).channels[k]? = (l.channels[k]?).map (fun ch =>
      if k = c ∧ ch.params.enabled = true then (workFrame ch sum now).1 else ch) := by
  rw [Listening.workChannel, Listening.live_of_present hp]
  by_cases hk : k = c
  · subst hk
    cases hch : l.channels[k]? with
    | none => simp [hch]
    | some ch => cases he : ch.params.enabled <;> simp [hch, he]
  · have hc : c ≠ k := Ne.symm hk
    split <;> simp [hk, hc]

/-- Both channels of a PRESENT input work the frame when they are enabled, and no other channel changes. -/
theorem Listening.workChannels_eq {i low high : Nat} (hp : (l.inputs[i]?).any (·.present) = true) :
    (l.workChannel (2 * i) low now).workChannel (2 * i + 1) high now = { l with
      channels := mapFrom (fun c ch =>
        if c / 2 = i ∧ ch.params.enabled = true then (workFrame ch (if c % 2 = 0 then low else high) now).1 else ch) 0
        l.channels } := by
  have hlow : 2 * i / 2 = i := by omega
  have hhigh : (2 * i + 1) / 2 = i := by omega
  have channels : ((l.workChannel (2 * i) low now).workChannel (2 * i + 1) high now).channels =
      mapFrom (fun c ch =>
        if c / 2 = i ∧ ch.params.enabled = true then (workFrame ch (if c % 2 = 0 then low else high) now).1 else ch) 0
        l.channels := by
    refine List.ext_getElem? fun k => ?_
    rw [Listening.workChannel_getElem? (by rw [Listening.workChannel_inputs, hhigh, hp]),
      Listening.workChannel_getElem? (by rw [hlow, hp]), mapFrom_getElem?, Option.map_map, Nat.zero_add]
    congr 1
    funext ch
    by_cases h0 : k = 2 * i
    · subst h0
      simp
    · by_cases h1 : k = 2 * i + 1
      · subst h1
        simp [hhigh]
      · have hk : k / 2 ≠ i := by omega
        simp [h0, h1, hk]
  rw [← channels]
  have inputs : ((l.workChannel (2 * i) low now).workChannel (2 * i + 1) high now).inputs = l.inputs := by
    rw [Listening.workChannel_inputs, Listening.workChannel_inputs]
  rw [← inputs]

end

/-- A report taken, with the expiries it makes due at once. -/
def reported (e : Env) (c : Nat) (r : Report) (p : Play) : Play := settle e settleFuel (takeReport e c r p)

/-- The second channel's report is taken first only when both channels report. -/
theorem reports_of_secondFirst {now : Tick} {first second : Report} (h : secondFirst now first second = true) :
    first ≠ .none ∧ second ≠ .none := by
  refine ⟨?_, ?_⟩
  · rintro rfl
    cases h
  · rintro rfl
    cases first <;> cases h

/-- A completed frame: what the channels become, and their reports taken in one of the two orders (R81). -/
theorem State.completeFrame_cases (u : State) (i low high : Nat) {first second : Report} {l : Listening}
    (hfirst : u.listening.reportOf (2 * i) low u.clock = first)
    (hsecond : u.listening.reportOf (2 * i + 1) high u.clock = second)
    (hl : (u.listening.workChannel (2 * i) low u.clock).workChannel (2 * i + 1) high u.clock = l) :
    ∃ q, u.completeFrame i low high = { u with listening := l, play := q } ∧
      (q = reported u.toEnv (2 * i + 1) second (reported u.toEnv (2 * i) first u.play) ∨
        (first ≠ .none ∧ second ≠ .none ∧
          q = reported u.toEnv (2 * i) first (reported u.toEnv (2 * i + 1) second u.play))) := by
  simp only [State.completeFrame, hfirst, hsecond, hl]
  split
  · rename_i h
    exact ⟨_, rfl, .inr ⟨(reports_of_secondFirst h).1, (reports_of_secondFirst h).2, rfl⟩⟩
  · exact ⟨_, rfl, .inl rfl⟩

/-! ### A pair (R69, R74) -/

section
variable {s t : State} {i : Nat} {a b : AudioInput} {l : Listening} {p : Play}

/-- A pair makes its input PRESENT, also one that begins the next frame. -/
theorem AudioInput.present_of_withPair {low high : Sample} {now : Tick} (hb : b = a.withPair low high now) :
    (if b.pairs < 64 then b else b.nextFrame).present = true := by
  rw [hb]
  split <;> rfl

/-- A pair on an input, before the frame that it may complete. -/
theorem State.takePair_eq {low high : Sample} (ha : s.listening.inputs[i]? = some a)
    (hb : b = a.withPair low high s.clock) (hl : l = s.listening.setInput i (if b.pairs < 64 then b else b.nextFrame))
    (ht : t = State.deriveBehaviour { s with listening := l })
    (hp : p = { t.play with latches := if a.present then t.play.latches else t.play.latches ||| 4#19 }) :
    s.takePair i a low high =
      if 64 ≤ b.pairs then { t with play := p }.completeFrame i b.lowSum b.highSum else { t with play := p } := by
  have hflip : (if 64 ≤ b.pairs then b.nextFrame else b) = if b.pairs < 64 then b else b.nextFrame := by
    by_cases h : b.pairs < 64
    · rw [if_pos h, if_neg (by omega)]
    · rw [if_neg h, if_pos (by omega)]
  have hset : s.setListening l = t := by
    rw [ht, hl]
    exact State.setListening_of_live fun c => Listening.live_setInput_of_live ha (AudioInput.present_of_withPair hb)
  have hlatch : (if a.present then t else { t with play := t.play.latch .microphone }) = { t with play := p } := by
    rw [hp]
    cases a.present <;> rfl
  simp only [State.takePair, ← hb, hflip, ← hl, hset, hlatch]

theorem exec_samplePairComplete (hs : Awake s) (ha : s.listening.inputs[i]? = some a) (low high : List Bool) :
    exec (.samplePairComplete i low high) s = .next (s.takePair i a (sampleOf low) (sampleOf high)) := by
  have taken : exec (.samplePairComplete i low high) s = .next (match s.listening.inputs[i]? with
    | some a => s.takePair i a (sampleOf low) (sampleOf high)
    | none => s) := congrArg _ (State.event_awake hs _)
  rw [taken, ha]

end

/-! ### The loss of an input (R70) -/

theorem exec_inputLost_due {s : State} {i : Nat} (hs : Awake s) (h : s.lossDue i = true) :
    exec (.inputLost i) s = .next
      ({ s with play := s.play.latch .microphone }.setListening (s.listening.loseInput i)) :=
  exec_guarded_due (due := (State.lossDue · i))
    (f := fun s => { s with play := s.play.latch .microphone }.setListening (s.listening.loseInput i)) rfl hs h

theorem exec_inputLost_not_due {s : State} {i : Nat} (hs : Awake s) (h : s.lossDue i = false) :
    exec (.inputLost i) s = .next s :=
  exec_guarded_not_due (due := (State.lossDue · i)) rfl hs h

/-- Settles O39: a pair by whether it completes a frame, and the loss of an input. -/
theorem pairsFramesAndLoss : Obligations.PairsFramesAndLoss := by
  refine ⟨fun bits i => sampleOf_getMsbD bits, fun i a b low high l s t p hs ha hb hl ht hp => ?_,
    fun i s hs => ⟨exec_inputLost_not_due hs, fun hd l hl => ?_⟩⟩
  · have hb : b = a.withPair (sampleOf low) (sampleOf high) s.clock := hb
    have hl : l = s.listening.setInput i (if b.pairs < 64 then b else b.nextFrame) := hl
    rw [exec_samplePairComplete hs ha, State.takePair_eq ha hb hl ht hp]
    refine ⟨fun hfew => by rw [if_neg (by omega)], fun hfull hfour hi rep take hrep htake => ?_⟩
    have hlistening : t.listening = l := by rw [ht, State.deriveBehaviour_eq]
    have henv : t.toEnv = s.toEnv := by rw [ht, State.deriveBehaviour_eq]
    have hpresent : (l.inputs[i]?).any (·.present) = true := by
      rw [hl]
      exact Listening.present_setInput ha (AudioInput.present_of_withPair hb)
    have hchannels : l.channels = s.listening.channels := by rw [hl]; rfl
    have htake : ∀ c r q, take c r q = reported s.toEnv c r q := fun c r q =>
      (htake c r q).trans (by cases r <;> rfl)
    have hreport : ∀ c, c < 4 → c / 2 = i →
        l.reportOf c (if c % 2 = 0 then b.lowSum else b.highSum) s.clock = rep c := by
      intro c hc hci
      have hch := List.getElem?_eq_getElem (hfour.symm ▸ hc : c < s.listening.channels.length)
      rw [Listening.reportOf_eq (hci ▸ hpresent) (by rw [hchannels]; exact hch), hrep c _ hch hci]
    have hfirst := hreport (2 * i) (by omega) (by omega)
    have hsecond := hreport (2 * i + 1) (by omega) (by omega)
    rw [if_pos (by omega)] at hfirst
    rw [if_neg (by omega)] at hsecond
    obtain ⟨q, hq, horder⟩ := State.completeFrame_cases { t with play := p } i b.lowSum b.highSum
      (first := rep (2 * i)) (second := rep (2 * i + 1)) (by rw [henv, hlistening, hfirst])
      (by rw [henv, hlistening, hsecond]) rfl
    refine ⟨q, ?_, ?_⟩
    · rw [if_pos hfull, hq, henv, hlistening, Listening.workChannels_eq hpresent, hchannels]
    · rw [henv] at horder
      simpa only [htake] using horder
  · have hl : l = s.listening.loseInput i := hl.trans rfl
    rw [exec_inputLost_due hs hd, ← hl]
    exact congrArg _ (State.setListening_eq _ _)

end Sys2Proof.Machine
end

section
/-! PROOF (O38). MIC PUT and MIC QUERY (R72, R73, R85). -/

namespace Sys2Proof.Machine

section
variable {s : State} {c : Nat} {a : MicArg}

theorem exec_micPut (hs : Ready s) (c : Nat) (a : MicArg) : exec (.micPut c a) s = .next (carryMicPut c a s.hunt) :=
  congrArg _ (State.request_ready hs rfl _)

theorem exec_micQuery (hs : Ready s) (c : Nat) : exec (.micQuery c) s = .next (carryMicQuery c s.hunt) :=
  congrArg _ (State.request_ready hs rfl _)

theorem exec_micPut_refused (hs : Ready s) {d : Nat} (h : micPutTest c a = some (.badArgument, d)) :
    exec (.micPut c a) s = .next { s with link := rejectLink s 0x20 .badArgument d } := by
  rw [exec_micPut hs, carryMicPut, h, State.tested_some, State.hunt_reject]

/-- R72, R73: a MIC PUT whose tests pass changes the channels, and the reply reads the values stored. -/
theorem exec_micPut_taken (hs : Ready s) (h : micPutTest c a = none) :
    exec (.micPut c a) s = .next { s.setListening { s.listening with
        channels := s.listening.channels.modify c (fun ch => ch.withParams (storedMic a)) } with
      link := replyLink s 0x20 (putNum 1 c ++ putMicParams (storedMic a)) } := by
  rw [exec_micPut hs, carryMicPut, h, State.tested_none]
  simp only [State.setListening_eq, State.deriveBehaviour_eq]
  rfl

theorem micPutTest_channel (h : 3 < c) : micPutTest c a = some (.badArgument, 0) := if_pos h

theorem micPutTest_enabled (hc : c ≤ 3) (h : 1 < a.enabled) : micPutTest c a = some (.badArgument, 2) := by
  rw [micPutTest, if_neg (by omega), if_pos h]

theorem micPutTest_passes (hc : c ≤ 3) (h : a.enabled ≤ 1) : micPutTest c a = none := by
  rw [micPutTest, if_neg (by omega), if_neg (by omega)]

theorem exec_micQuery_absent (hs : Ready s) (h : s.listening.channels[c]? = none) :
    exec (.micQuery c) s = .next { s with link := rejectLink s 0x21 .badArgument 0 } := by
  rw [exec_micQuery hs, carryMicQuery, State.hunt_listening, h, State.hunt_reject]

theorem exec_micQuery_channel (hs : Ready s) {ch : Channel} (h : s.listening.channels[c]? = some ch) :
    exec (.micQuery c) s = .next { s with link := replyLink s 0x21 (putMicQuery ch
      ((s.listening.inputs[c / 2]?).any (·.present)) (s.listening.live c) (s.play.counter (.onsets c))
      (s.play.counter (.releases c)) s.clock) } := by
  rw [exec_micQuery hs, carryMicQuery, State.hunt_listening, h]
  rfl

end

/-- The seven values in the reply of MIC PUT (R72). -/
theorem putMicParams_eq (m : MicParams) : putMicParams m =
    putNum 1 (if m.enabled then 0 else 1) ++ (putNum 1 m.acousticDelay ++ (putNum 1 m.rise ++ (putNum 3 m.floor ++
      (putNum 2 m.refractory ++ (putNum 1 m.ratio ++ putNum 1 m.confirm))))) := by
  rw [show (if m.enabled then 0 else 1) = enabledCode m.enabled by cases m.enabled <;> rfl]
  simp only [putMicParams, List.append_assoc]

/-- Settles O38: the tests of MIC PUT in their order, the channels it changes, and MIC QUERY. -/
theorem micPutStores : Obligations.MicPutStores := by
  intro c a s hs
  refine ⟨fun hc => exec_micPut_refused hs (micPutTest_channel hc),
    fun hc he => exec_micPut_refused hs (micPutTest_enabled hc he), fun hc he m l t hm hl ht => ?_,
    exec_micQuery_absent hs,
    fun ch hch => ⟨_, by rw [Option.any_eq_true], exec_micQuery_channel hs hch⟩⟩
  have hm : storedMic a = m := hm.symm
  have hl : l = { s.listening with
      channels := s.listening.channels.modify c (fun ch => ch.withParams m) } := hl
  rw [exec_micPut_taken hs (micPutTest_passes hc he), hm, ← hl, State.setListening_eq, ← ht, putMicParams_eq]

end Sys2Proof.Machine
end

section
/-! PROOF (O41). MATCH PUT and a candidate's expiry (R93, R94, R101, R102). -/

namespace Sys2Proof.Machine

section
variable {s : State}

theorem behaviourFor_eq (mode : MatchMode) (live : Nat) : behaviourFor mode live =
    if mode = .agreement ∧ 2 ≤ live then MatchMode.agreement else MatchMode.firstArrival := rfl

theorem modeOf_eq_none {mode : Nat} (h : 2 ≤ mode) : modeOf mode = none := by
  match mode with
  | n + 2 => rfl

theorem modeOf_eq_some {mode : Nat} {md : MatchMode}
    (h : (mode = 0 ∧ md = .firstArrival) ∨ (mode = 1 ∧ md = .agreement)) :
    modeOf mode = some md ∧ md.code = mode := by
  obtain ⟨rfl, rfl⟩ | ⟨rfl, rfl⟩ := h <;> exact ⟨rfl, rfl⟩

theorem MatchMode.code_eq (b : MatchMode) : b.code = if b = .agreement then 1 else 0 := by
  cases b <;> rfl

theorem exec_matchPut (hs : Ready s) (mode merge : Nat) :
    exec (.matchPut mode merge) s = .next (carryMatchPut mode merge s.hunt) :=
  congrArg _ (State.request_ready hs rfl _)

theorem exec_matchPut_refused (hs : Ready s) {mode : Nat} (h : modeOf mode = none) (merge : Nat) :
    exec (.matchPut mode merge) s = .next { s with link := rejectLink s 0x22 .badArgument 0 } := by
  rw [exec_matchPut hs, carryMatchPut, h]
  exact congrArg _ (State.hunt_reject s _ _ _)

/-- The reply reads what was stored, and the behaviour that is then in force. -/
theorem putMatchReply_eq {p : Play} {md b : MatchMode} {merge : Nat} (h : p.settings = (md, merge, b)) :
    putMatchReply p.matcher = putNum 1 md.code ++ putNum 1 merge ++ putNum 1 b.code := by
  simp only [Play.settings, Prod.mk.injEq] at h
  obtain ⟨hmode, hmerge, hbehaviour⟩ := h
  rw [putMatchReply, hmode, hmerge, hbehaviour]

/-- R93: mode and merge window stored, and the behaviour derived again. -/
theorem exec_matchPut_taken (hs : Ready s) {mode : Nat} {md : MatchMode} (h : modeOf mode = some md) (merge : Nat) :
    exec (.matchPut mode merge) s = .next { s with
      play := derivedPlay s.toEnv s.listening.liveCount
        { s.play with matcher := { s.play.matcher with mode := md, merge := clamp 10 200 merge } }
      link := replyLink s 0x22 (putNum 1 md.code ++ putNum 1 (clamp 10 200 merge) ++
        putNum 1 (behaviourFor md s.listening.liveCount).code) } := by
  rw [exec_matchPut hs, carryMatchPut, h]
  simp only [State.putMatch, State.deriveBehaviour_eq]
  rw [putMatchReply_eq derivedPlay_settings]
  rfl

/-! ### A candidate's expiry (R101) -/

theorem exec_candidateExpiry (hs : Awake s) (c : Nat) :
    exec (.candidateExpiry c) s = .next (s.act (fun e p => expireCandidate e c p)) :=
  congrArg _ (State.event_awake hs _)

theorem expireCandidate_not_due {e : Env} {c : Nat} {p : Play}
    (h : ∀ k, p.matcher.candidate c = some k → hasCome e.clock k.expiry = false) : expireCandidate e c p = p := by
  unfold expireCandidate
  split
  · rfl
  · rename_i k hk
    rw [h k hk]
    rfl

theorem expireCandidate_due {e : Env} {c : Nat} {p : Play} {k : Candidate} (hk : p.matcher.candidate c = some k)
    (h : hasCome e.clock k.expiry = true) : expireCandidate e c p = { p with
      matcher := { p.matcher with candidates := p.matcher.candidates.set c none }
      counters := p.counters.modify (20 + 6 * c) (fun n => min (n + 1) 65535) } := by
  simp only [expireCandidate, hk, h, if_true]
  rfl

end

/-- Settles O41: the live channels, the three ways in which the behaviour can come out, MATCH PUT by the same three,
and a candidate's expiry. -/
theorem matchPutChangesBehaviour : Obligations.MatchPutChangesBehaviour := by
  refine ⟨fun l c => ⟨l.live_iff c, List.countP_eq_length_filter⟩, fun s b hb => ?_,
    fun mode merge s hs hmode => exec_matchPut_refused hs (modeOf_eq_none hmode) merge,
    fun mode merge M md b l s hs hmode hM hb hl => ?_, fun c s hs hsettled => ⟨fun h => ?_, fun k hk h => ?_⟩⟩
  · rw [← behaviourFor_eq] at hb
    rw [State.deriveBehaviour_eq]
    refine ⟨fun h => ?_, fun hp h => ?_, fun hp h held hs hm => ?_⟩
    · rw [derivedPlay_same (h.trans hb)]
    · rw [derivedPlay_agreement hp (hb.symm.trans h)]
    · rw [derivedPlay_firstArrival hp (hb.symm.trans h) hs hm]
      rfl
  · obtain ⟨hmd, hcode⟩ := modeOf_eq_some hmode
    have hM : clamp 10 200 merge = M := hM.symm
    rw [← behaviourFor_eq] at hb
    rw [exec_matchPut_taken hs hmd, hcode, hM, ← hb, MatchMode.code_eq, ← hl]
    refine ⟨fun h => ?_, fun hp h => ?_, fun hp h held hs hm => ?_⟩
    · rw [derivedPlay_same]
      exact h.trans hb
    · rw [derivedPlay_agreement]
      exacts [hp, hb.symm.trans h]
    · rw [derivedPlay_firstArrival (held := held)]
      exacts [rfl, hp, hb.symm.trans h, hs, hm]
  · have hq := expireCandidate_not_due (e := s.toEnv) h
    rw [exec_candidateExpiry hs, State.act_settled (by rw [hq]; exact hsettled), hq]
  · have hq := expireCandidate_due (e := s.toEnv) hk h
    rw [exec_candidateExpiry hs, State.act_settled (by rw [hq]; exact hsettled), hq]

end Sys2Proof.Machine
end

section
/-! SUPPORT (O42, O43). What the matcher chooses (R96, R97, R99): a fold that keeps the better of two picks the element
that beats all before it and is beaten by none after it; so the nearest anchor, and the candidate that a report agrees
with. -/

namespace Sys2Proof.Machine

/-! ### Folds that keep the better of two -/

section
variable {α : Type} {r : α → α → Prop} [DecidableRel r] {a : α}

/-- The best so far stays when nothing that comes beats it. -/
theorem foldl_argAux_of_unbeaten {l : List α} (h : ∀ b ∈ l, ¬ r b a) : l.foldl (List.argAux r) (some a) = some a := by
  induction l with
  | nil => rfl
  | cons b l ih =>
    have kept : List.argAux r (some a) b = some a := if_neg (h b (by simp))
    rw [List.foldl_cons, kept]
    exact ih fun c hc => h c (by simp [hc])

/-- An element that beats the best so far and all before it, and is beaten by none after it, is the one kept. -/
theorem foldl_argAux_of_wins {before after : List α} {best : Option α} (hbest : ∀ b ∈ best, r a b)
    (hbefore : ∀ b ∈ before, r a b) (hafter : ∀ b ∈ after, ¬ r b a) :
    (before ++ a :: after).foldl (List.argAux r) best = some a := by
  induction before generalizing best with
  | nil =>
    have taken : List.argAux r best a = some a := by
      cases best with
      | none => rfl
      | some b => exact if_pos (hbest b rfl)
    rw [List.nil_append, List.foldl_cons, taken]
    exact foldl_argAux_of_unbeaten hafter
  | cons x before ih =>
    refine ih (fun b hb => ?_) fun b hb => hbefore b (by simp [hb])
    cases best with
    | none =>
      obtain rfl : x = b := by simpa [List.argAux] using hb
      exact hbefore x (by simp)
    | some c =>
      have hb : (if r x c then some x else some c) = some b := hb
      split at hb
      · exact Option.some.inj hb ▸ hbefore x (by simp)
      · exact hbest b hb

end

/-! ### The nearest anchor (R96, R97) -/

theorem nearest_eq_foldl {α : Type} (dist : α → Nat) (l : List α) :
    nearest dist l = l.foldl (List.argAux fun x b => dist x < dist b) none := by
  have step : nearer dist = List.argAux fun x b => dist x < dist b := by
    funext best x
    cases best <;> rfl
  rw [nearest, step]

/-- The nearest anchor of a relation is the nearest of the rising list of those that stand in it. -/
theorem nearest_eq_some {near : Anchor → Int → Prop} {dist : Anchor → Nat} {l : List Anchor} {a : Anchor}
    (hr : l.Pairwise (fun a b => a.position < b.position)) (hmem : ∀ b, b ∈ l ↔ ∃ x, near b x)
    (hdist : ∀ b x, near b x → dist b = x.natAbs) (h : NearestOf near a) : nearest dist l = some a := by
  obtain ⟨x, hx, hall⟩ := h
  have hbeats : ∀ b ∈ l, dist a < dist b ∨ (dist a = dist b ∧ a.position ≤ b.position) := fun b hb => by
    obtain ⟨y, hy⟩ := (hmem b).mp hb
    rw [hdist a x hx, hdist b y hy]
    exact hall b y hy
  obtain ⟨before, after, rfl⟩ := List.append_of_mem ((hmem a).mpr ⟨x, hx⟩)
  obtain ⟨-, -, hbelow⟩ := List.pairwise_append.mp hr
  rw [nearest_eq_foldl]
  refine foldl_argAux_of_wins (by simp) (fun b hb => ?_) fun b hb => ?_
  · have := hbeats b (by simp [hb])
    have := hbelow b hb a (by simp)
    omega
  · have := hbeats b (by simp [hb])
    omega

theorem nearest_eq_none {near : Anchor → Int → Prop} {dist : Anchor → Nat} {l : List Anchor}
    (hmem : ∀ b, b ∈ l ↔ ∃ x, near b x) (h : ∀ a x, ¬ near a x) : nearest dist l = none := by
  rw [List.eq_nil_iff_forall_not_mem.mpr fun b hb => ((hmem b).mp hb).elim (h b)]
  rfl

section
variable {m : Matcher} {tr : Tracker} {t : Tick} {a : Anchor}

theorem within_iff {n : Nat} {a b : Tick} : within n a b = true ↔ -(n : Int) ≤ timeDiff a b ∧ timeDiff a b ≤ n := by
  simp [within]

/-- The anchors that `duplicateAnchor` chooses from (R96). -/
theorem mem_duplicates (b : Anchor) : b ∈ m.anchors.filter (fun a => decide (a.status = .matched) &&
    a.time.any (fun u => within m.merge t u)) ↔ ∃ x, DuplicateOf m t b x := by
  simp [DuplicateOf, within_iff, Option.any_eq_true]

/-- The anchors that `candidateAnchor` chooses from (R97). -/
theorem mem_candidates (b : Anchor) : b ∈ m.anchors.filter (fun a => decide (a.status = .pending) &&
    within tr.windowTicks t (tr.timeOf a.position)) ↔ ∃ x, CandidateFor m tr t b x := by
  simp [CandidateFor, within_iff, Tracker.windowTicks, Config.pulseUnits]

theorem duplicateAnchor_eq_some (hr : Rising m) (h : NearestOf (DuplicateOf m t) a) :
    duplicateAnchor m t = some a := by
  refine nearest_eq_some (hr.filter _) mem_duplicates (fun b x hb => ?_) h
  obtain ⟨-, -, u, hu, rfl, -, -⟩ := hb
  simp [hu, timeDistance]

theorem duplicateAnchor_eq_none (h : ∀ a x, ¬ DuplicateOf m t a x) : duplicateAnchor m t = none :=
  nearest_eq_none mem_duplicates h

theorem candidateAnchor_eq_some (hr : Rising m) (h : NearestOf (CandidateFor m tr t) a) :
    candidateAnchor m tr t = some a := by
  refine nearest_eq_some (hr.filter _) mem_candidates (fun b x hb => ?_) h
  obtain ⟨-, -, rfl, -, -⟩ := hb
  rfl

theorem candidateAnchor_eq_none (h : ∀ a x, ¬ CandidateFor m tr t a x) : candidateAnchor m tr t = none :=
  nearest_eq_none mem_candidates h

end

/-! ### The candidate that a report agrees with (R99) -/

/-- R99.3: a candidate nearer to a time than another, or as near and earlier. -/
abbrev NearerCandidate (t : Tick) (x b : Nat × Candidate) : Prop :=
  timeDistance t x.2.time < timeDistance t b.2.time ∨
    (timeDistance t x.2.time = timeDistance t b.2.time ∧ isAfter b.2.time x.2.time = true)

theorem NearerCandidate.asymm {t : Tick} {x b : Nat × Candidate} (h : NearerCandidate t x b) :
    ¬ NearerCandidate t b x := by
  rintro (hnear | ⟨hsame, hearlier⟩)
  · rcases h with h | h <;> omega
  · rcases h with h | ⟨-, h⟩
    · omega
    · rw [isAfter_asymm h] at hearlier
      cases hearlier

/-- R99.2: the other channels' candidates within the merge window of a time. -/
def candidatesNear (m : Matcher) (c : Nat) (t : Tick) : List (Nat × Candidate) :=
  (List.range 4).filterMap (fun d =>
    if d = c then none else ((m.candidate d).filter (fun k => within m.merge t k.time)).map (fun k => (d, k)))

section
variable {m : Matcher} {c d : Nat} {t : Tick} {k : Candidate}

theorem mem_candidatesNear : (d, k) ∈ candidatesNear m c t ↔
    d < 4 ∧ d ≠ c ∧ m.candidate d = some k ∧ within m.merge t k.time = true := by
  simp only [candidatesNear, List.mem_filterMap, List.mem_range]
  constructor
  · rintro ⟨d', hd, h⟩
    split at h
    · cases h
    · rename_i hc
      obtain ⟨k', hk, heq⟩ := Option.map_eq_some_iff.mp h
      obtain ⟨rfl, rfl⟩ := Prod.mk.inj heq
      exact ⟨hd, hc, Option.filter_eq_some_iff.mp hk⟩
  · rintro ⟨hd, hc, hk⟩
    exact ⟨d, hd, by rw [if_neg hc, Option.filter_eq_some_iff.mpr hk, Option.map_some]⟩

theorem agreeing_eq_foldl : agreeing m c t = (candidatesNear m c t).foldl (List.argAux (NearerCandidate t)) none := by
  unfold agreeing candidatesNear
  congr 1
  funext best x
  cases best with
  | none => rfl
  | some b => simp only [List.argAux, NearerCandidate, ite_or]

theorem agreeing_eq_none (h : ∀ d k, d < 4 → d ≠ c → m.candidate d = some k → within m.merge t k.time = false) :
    agreeing m c t = none := by
  have empty : candidatesNear m c t = [] := List.eq_nil_iff_forall_not_mem.mpr fun (d, k) hx => by
    obtain ⟨hd, hc, hk, hw⟩ := mem_candidatesNear.mp hx
    rw [h d k hd hc hk] at hw
    cases hw
  rw [agreeing_eq_foldl, empty]
  rfl

/-- R99.3: the one candidate that is nearer than all others in reach. -/
theorem agreeing_eq_some (hd : d < 4) (hc : d ≠ c) (hk : m.candidate d = some k)
    (hw : within m.merge t k.time = true)
    (hbest : ∀ d' k', d' < 4 → d' ≠ c → d' ≠ d → m.candidate d' = some k' → within m.merge t k'.time = true →
      NearerCandidate t (d, k) (d', k')) : agreeing m c t = some (d, k) := by
  have beats : ∀ x ∈ candidatesNear m c t, x ≠ (d, k) → NearerCandidate t (d, k) x := fun (d', k') hx hne => by
    obtain ⟨hd', hc', hk', hw'⟩ := mem_candidatesNear.mp hx
    refine hbest d' k' hd' hc' (fun heq => hne ?_) hk' hw'
    subst heq
    rw [Option.some.inj (hk'.symm.trans hk)]
  obtain ⟨before, after, hlist, hnot⟩ := List.eq_append_cons_of_mem (mem_candidatesNear.mpr ⟨hd, hc, hk, hw⟩)
  rw [agreeing_eq_foldl, hlist]
  rw [hlist] at beats
  refine foldl_argAux_of_wins (by simp) (fun x hx => beats x (by simp [hx]) fun heq => hnot (heq ▸ hx))
    fun x hx hlt => ?_
  by_cases heq : x = (d, k)
  · subst heq
    exact hlt.asymm hlt
  · exact (beats x (by simp [hx]) heq).asymm hlt

/-- A channel's own candidate is none that its report can agree with. -/
theorem agreeing_setCandidate (x : Option Candidate) : agreeing (m.setCandidate c x) c t = agreeing m c t := by
  have same : candidatesNear (m.setCandidate c x) c t = candidatesNear m c t := by
    refine List.filterMap_congr fun d _ => ?_
    split
    · rfl
    · rename_i hd
      simp only [Matcher.candidate, Matcher.setCandidate, List.getElem?_set_ne (Ne.symm hd)]
  rw [agreeing_eq_foldl, agreeing_eq_foldl, same]

end

end Sys2Proof.Machine
end

section
/-! PROOF (O42). A report under FIRST-ARRIVAL (R95 to R98). -/

namespace Sys2Proof.Machine

section
variable {e : Env} {c : Nat} {t : Tick} {p : Play} {a : Anchor}

/-! ### Whether the matcher can match (R95) -/

theorem matching_iff : matching p = true ↔ p.matcher.state = .opened ∧ p.tracker.tracking = true := by
  simp [matching]

theorem matching_eq_false_iff : matching p = false ↔ p.matcher.state ≠ .opened ∨ p.tracker.tracking = false := by
  rw [← Bool.not_eq_true, matching_iff, not_and_or, Bool.not_eq_true]

theorem takeFirstArrival_matching (h : matching p = true) : takeFirstArrival e c t p = testReport e c t p :=
  if_pos h

theorem takeFirstArrival_not_matching (h : matching p = false) : takeFirstArrival e c t p = p.count (.stray c) :=
  if_neg (by simp [h])

theorem takeOnset_firstArrival (hb : p.matcher.behaviour = .firstArrival) (strength : Nat) :
    takeOnset e c t strength p = takeFirstArrival e c t p := by
  rw [takeOnset, hb]

/-! ### A report that is tested (R96 to R98) -/

theorem testReport_duplicate (h : duplicateAnchor p.matcher t = some a) :
    testReport e c t p = p.count (if a.channel = some c then .stray c else .duplicate c) := by
  rw [testReport, h]
  exact (apply_ite p.count _ _ _).symm

theorem testReport_matched (h : duplicateAnchor p.matcher t = none)
    (ha : candidateAnchor p.matcher p.tracker t = some a) : testReport e c t p = matchAnchor e c t a p := by
  rw [testReport, h, ha]

theorem testReport_stray (h : duplicateAnchor p.matcher t = none)
    (ha : candidateAnchor p.matcher p.tracker t = none) : testReport e c t p = p.count (.stray c) := by
  rw [testReport, h, ha]

/-- R97: the anchors below the matched one are passed, and it is matched, in one pass over the list. -/
theorem matchAt_missBelow (position : Nat) (t : Tick) (c : Nat) (l : List Anchor) :
    matchAt position t c (missBelow position l) = l.map (fun b =>
      if b.position = position then { b with status := .matched, time := some t, channel := some c }
      else if b.status = .pending ∧ b.position < position then { b with status := .missed } else b) := by
  rw [matchAt, missBelow, List.map_map]
  refine List.map_congr_left fun b _ => ?_
  by_cases hb : b.position = position
  · simp [hb]
  · by_cases hm : b.status = .pending ∧ b.position < position <;> simp [hb, hm]

theorem matchAnchor_eq : matchAnchor e c t a p =
    deriveWindow e (takeCorrection e a.position t p.matcher.tag { p with
      matcher := { p.matcher with anchors := p.matcher.anchors.map (fun b =>
        if b.position = a.position then { b with status := .matched, time := some t, channel := some c }
        else if b.status = .pending ∧ b.position < a.position then { b with status := .missed } else b) }
      counters := (p.counters.modify 2 (fun n => min (n + pendingBelow a.position p.matcher.anchors) 65535)).modify
        (17 + 6 * c) (fun n => min (n + 1) 65535) }) := by
  rw [matchAnchor, matchAt_missBelow]
  rfl

end

/-- Settles O42: a report is tested only while the matcher can match; then by the nearest anchor of either kind. -/
theorem reportsUnderFirstArrival : Obligations.ReportsUnderFirstArrival := by
  intro e c strength t p hb
  rw [takeOnset_firstArrival hb]
  refine ⟨fun h => takeFirstArrival_not_matching (matching_eq_false_iff.mpr h), fun hopen htracking hr => ?_⟩
  rw [takeFirstArrival_matching (matching_iff.mpr ⟨hopen, htracking⟩)]
  refine ⟨fun a ha => testReport_duplicate (duplicateAnchor_eq_some hr ha), fun hnone => ?_⟩
  have hnew : duplicateAnchor p.matcher t = none := duplicateAnchor_eq_none hnone
  refine ⟨fun hfar => testReport_stray hnew (candidateAnchor_eq_none hfar), fun a ha passed hpassed => ?_⟩
  subst hpassed
  rw [testReport_matched hnew (candidateAnchor_eq_some hr ha), matchAnchor_eq]
  rfl

end Sys2Proof.Machine
end

section
/-! PROOF (O43). A report under AGREEMENT (R95, R99 to R101). -/

namespace Sys2Proof.Machine

section
variable {e : Env} {c d strength : Nat} {t : Tick} {p q : Play} {k : Candidate}

theorem takeOnset_agreement (hb : p.matcher.behaviour = .agreement) (h : matching p = true) :
    takeOnset e c t strength p = takeAgreement e c t strength p := by
  rw [takeOnset, hb]
  exact if_pos h

theorem takeOnset_agreement_not_matching (hb : p.matcher.behaviour = .agreement) (h : matching p = false) :
    takeOnset e c t strength p = p.count (.stray c) := by
  rw [takeOnset, hb]
  exact if_neg (by simp [h])

/-- R99.1: a channel's own candidate is discarded. -/
def Play.discardOwn (p : Play) (c : Nat) : Play :=
  match p.matcher.candidate c with
  | some _ => (p.setMatcher (p.matcher.setCandidate c none)).count (.unconfirmed c)
  | none => p

/-- R99.1 by the candidate that the channel holds. -/
theorem discardOwn_eq (hnone : p.matcher.candidate c = none → q = p)
    (hsome : ∀ k, p.matcher.candidate c = some k → q = { p with
      matcher := { p.matcher with candidates := p.matcher.candidates.set c none }
      counters := p.counters.modify (20 + 6 * c) (fun n => min (n + 1) 65535) }) : p.discardOwn c = q := by
  cases hc : p.matcher.candidate c with
  | none => rw [Play.discardOwn, hc, hnone hc]
  | some k =>
    rw [Play.discardOwn, hc, hsome k hc]
    rfl

/-- What a report agrees with, and the merge window, do not depend on its channel's own candidate. -/
theorem discardOwn_keeps : agreeing (p.discardOwn c).matcher c t = agreeing p.matcher c t ∧
    (p.discardOwn c).matcher.merge = p.matcher.merge := by
  unfold Play.discardOwn
  split
  · exact ⟨agreeing_setCandidate none, rfl⟩
  · exact ⟨rfl, rfl⟩

/-- R99.2 to R101: a report whose channel holds no candidate makes a pair, or stands alone. -/
def pairOrHold (e : Env) (c : Nat) (t : Tick) (strength : Nat) (p : Play) : Play :=
  match agreeing p.matcher c t with
  | some (d, k) => takePair e d k c t strength p
  | none =>
    if hasCome e.clock (t + BitVec.ofNat 32 p.matcher.merge) then p.count (.unconfirmed c)
    else p.setMatcher (p.matcher.setCandidate c
      (some { time := t, strength := strength, expiry := t + BitVec.ofNat 32 p.matcher.merge }))

theorem takeAgreement_eq : takeAgreement e c t strength p = pairOrHold e c t strength (p.discardOwn c) := rfl

theorem takeAgreement_alone (h : agreeing p.matcher c t = none) : takeAgreement e c t strength p =
    if hasCome e.clock (t + BitVec.ofNat 32 p.matcher.merge) then (p.discardOwn c).count (.unconfirmed c)
    else (p.discardOwn c).setMatcher ((p.discardOwn c).matcher.setCandidate c
      (some { time := t, strength := strength, expiry := t + BitVec.ofNat 32 p.matcher.merge })) := by
  obtain ⟨hagree, hmerge⟩ := discardOwn_keeps (p := p) (c := c) (t := t)
  rw [takeAgreement_eq, pairOrHold, hagree, h, hmerge]

theorem takeAgreement_agreed (h : agreeing p.matcher c t = some (d, k)) :
    takeAgreement e c t strength p = takePair e d k c t strength (p.discardOwn c) := by
  obtain ⟨hagree, -⟩ := discardOwn_keeps (p := p) (c := c) (t := t)
  rw [takeAgreement_eq, pairOrHold, hagree, h]

/-- R100: the candidate is the taken report when it is earlier, or as early and as strong. -/
theorem candidateTaken_iff : candidateTaken k t strength = true ↔
    isAfter t k.time = true ∨ (t = k.time ∧ strength ≤ k.strength) := by
  simp [candidateTaken]

theorem takePair_eq : takePair e d k c t strength q =
    if isAfter t k.time = true ∨ (t = k.time ∧ strength ≤ k.strength) then
      testReport e d k.time ({ q with matcher := { q.matcher with
        candidates := q.matcher.candidates.set d none } }.count (.duplicate c))
    else
      testReport e c t ({ q with matcher := { q.matcher with
        candidates := q.matcher.candidates.set d none } }.count (.duplicate d)) :=
  if_congr candidateTaken_iff rfl rfl

end

/-- Settles O43: a report's own candidate goes first, and no agreement depends on it; then it stands alone, or makes a
pair with the candidate that is nearest. -/
theorem reportsUnderAgreement : Obligations.ReportsUnderAgreement := by
  intro e c strength t p q hb
  refine ⟨fun h => takeOnset_agreement_not_matching hb (matching_eq_false_iff.mpr h),
    fun hopen htracking hnone hsome => ?_⟩
  rw [takeOnset_agreement hb (matching_iff.mpr ⟨hopen, htracking⟩)]
  have hq : p.discardOwn c = q := discardOwn_eq hnone hsome
  refine ⟨fun hfar => ?_, fun d k hd hc hk hw hbest => ?_⟩
  · rw [takeAgreement_alone (agreeing_eq_none hfar), hq]
    rfl
  · rw [takeAgreement_agreed (agreeing_eq_some hd hc hk hw hbest), hq, takePair_eq]

end Sys2Proof.Machine
end

section
/-! PROOF (O44). The window-close expiry and its anchor (R90, R91, R120), and TRACK PUT (R112). -/

namespace Sys2Proof.Machine

/-! ### When the window closes (R90) -/

theorem windowCloseFor_eq_some_iff {m : Matcher} (hr : Rising m) {tr : Tracker} {x : Tick} :
    windowCloseFor m tr = some x ↔ m.state = .opened ∧
      (tr.state = .leading ∨ tr.state = .following ∨ tr.state = .coasting) ∧ ∃ a, EarliestPending m a ∧
      x = tr.timeOf a.position + BitVec.ofNat 32 (tr.params.window * tr.period / 61440) := by
  rw [windowCloseFor, Option.ite_none_right_eq_some, tracking_iff, and_assoc, Option.map_eq_some_iff]
  simp only [firstPending_iff hr, eq_comm (b := x)]
  rfl

section
variable {s : State} {a : Anchor}

/-! ### The window-close expiry (R91, R120) -/

theorem exec_windowCloseExpiry (hs : Awake s) : exec .windowCloseExpiry s = .next (s.act takeWindowClose) :=
  congrArg _ (State.event_awake hs _)

theorem exec_windowCloseExpiry_not_due (hs : Awake s) (hd : windowDue s.toEnv s.play = false) (hsettled : Settled s) :
    exec .windowCloseExpiry s = .next s := by
  have hq := takeWindowClose_not_due hd
  rw [exec_windowCloseExpiry hs, State.act_settled (by rw [hq]; exact hsettled), hq]

/-- Anchors at rising positions are told apart by them. -/
theorem eq_of_position_eq {m : Matcher} (hr : Rising m) {a b : Anchor} (ha : a ∈ m.anchors) (hb : b ∈ m.anchors)
    (h : a.position = b.position) : a = b := by
  have distinct : (m.anchors.map Anchor.position).Nodup := List.pairwise_map.mpr (hr.imp fun hlt => ne_of_lt hlt)
  exact List.inj_on_of_nodup_map distinct ha hb h

/-- R91, R120: the window of the earliest PENDING anchor closes. -/
theorem closeWindow_eq {e : Env} {p : Play} (hr : Rising p.matcher) (ha : EarliestPending p.matcher a) {n : Nat}
    (hn : n = min (p.tracker.misses + 1) 255) {m : Matcher} {tr : Tracker}
    (hm : m = { p.matcher with anchors := p.matcher.anchors.map (fun b =>
      if b.position = a.position then { b with status := .missed } else b) })
    (htr : tr = { p.tracker with
      misses := if p.tracker.tracking then n else p.tracker.misses
      state := if p.tracker.state = .following ∧ p.tracker.params.missLimit ≤ n then .coasting
        else p.tracker.state }) : closeWindow e p = { p with
      matcher := { m with windowClose := windowCloseFor m tr }
      tracker := tr
      counters := p.counters.modify 2 (fun k => min (k + 1) 65535)
      latches := if p.tracker.state = .following ∧ p.tracker.params.missLimit ≤ n then p.latches ||| 512#19
        else p.latches
      atOnce := p.atOnce ++ (if dueAt e.clock (windowCloseFor m tr) then [.windowClose] else []) } := by
  have ⟨hmem, hpending, _⟩ := ha
  have hmap : p.matcher.anchors.map (fun b =>
      if b.position = a.position ∧ b.status = .pending then { b with status := .missed } else b) =
      p.matcher.anchors.map (fun b => if b.position = a.position then { b with status := .missed } else b) := by
    refine List.map_congr_left fun b hb => if_congr ⟨And.left, fun h => ⟨h, ?_⟩⟩ rfl rfl
    rw [eq_of_position_eq hr hb hmem h, hpending]
  subst hn hm htr
  rw [closeWindow, (firstPending_iff hr).mpr ha]
  simp only [hmap, takeMiss_eq, deriveWindow_eq]
  rfl

theorem exec_windowCloseExpiry_due (hs : Awake s) (hd : windowDue s.toEnv s.play = true) :
    exec .windowCloseExpiry s = .next (afterwards s (closeWindow s.toEnv s.play)) := by
  have hq : takeWindowClose s.toEnv s.play = closeWindow s.toEnv s.play := if_pos hd
  rw [exec_windowCloseExpiry hs, State.act, hq, afterwards]

end

/-! ### TRACK PUT (R112) -/

section
variable {s : State} {v : TrackParams}

theorem putTrack_same_window {e : Env} {p : Play} (h : v.window = p.tracker.params.window) :
    putTrack v e p = { p with tracker := { p.tracker with params := v } } :=
  if_pos h

/-- A changed window moves the window-close expiry at once. -/
theorem putTrack_changed_window {e : Env} {p : Play} (h : v.window ≠ p.tracker.params.window) {tr : Tracker}
    (htr : tr = { p.tracker with params := v }) {w : Option Tick} (hw : w = windowCloseFor p.matcher tr) :
    putTrack v e p = { p with
      tracker := tr
      matcher := { p.matcher with windowClose := w }
      atOnce := p.atOnce ++ (if dueAt e.clock w then [.windowClose] else []) } := by
  subst htr hw
  rw [putTrack, if_neg h, deriveWindow_eq]

theorem exec_trackPut (hs : Ready s) (a : TrackArg) : exec (.trackPut a) s = .next {
    afterwards s (putTrack (storedTrack a) s.toEnv s.play) with
    link := replyLink s 0x23 (putTrackParams (storedTrack a)) } :=
  congrArg _ (State.request_ready hs rfl _)

end

/-- Settles O44: the expiry's time, the expiry that has come and the one that has not, and TRACK PUT. -/
theorem windowCloseAndTrackPut : Obligations.WindowCloseAndTrackPut := by
  refine ⟨fun m tr x hr => windowCloseFor_eq_some_iff hr,
    fun s hs => ⟨exec_windowCloseExpiry_not_due hs, fun a n m tr hd hr ha hn hm htr => ?_⟩,
    fun a v tr w s hs hv htr hw => ?_⟩
  · rw [exec_windowCloseExpiry_due hs hd, closeWindow_eq hr ha hn hm htr]
  · have hv : storedTrack a = v := hv.symm
    rw [exec_trackPut hs, hv]
    refine ⟨fun h hsettled => ?_, fun h => ?_⟩
    · rw [putTrack_same_window h, ← htr, afterwards_settled]
      exact hsettled
    · rw [putTrack_changed_window h htr hw]

end Sys2Proof.Machine
end

section
/-! PROOF (O46). T(x) as a signed offset from R that rises with x and stays within 2^20 ticks (R108), the holding
answers (R123), pos(t) with the distance of its T from t (R109), and the range of W (R110). -/

namespace Sys2Proof.Machine

/-! ### Two times counted from one (R1) -/

/-- The difference of two times is that of their offsets from a third, when it fits a signed word. -/
theorem timeDiff_add_ofInt (r : Tick) {a b : Int} (hlow : -2147483648 ≤ a - b) (hhigh : a - b < 2147483648) :
    timeDiff (r + BitVec.ofInt 32 a) (r + BitVec.ofInt 32 b) = a - b := by
  have hsub : r + BitVec.ofInt 32 a - (r + BitVec.ofInt 32 b) = BitVec.ofInt 32 (a - b) := by
    rw [add_sub_add_left_eq_sub, sub_eq_add_neg, ← BitVec.ofInt_neg, ← BitVec.ofInt_add, ← sub_eq_add_neg]
  rw [timeDiff, hsub, BitVec.toInt_ofInt_eq_self (by decide) hlow hhigh]

/-! ### T(x) (R108, R123) -/

theorem spanTicks_mono {m n : Nat} (h : m ≤ n) (period : Nat) : spanTicks m period ≤ spanTicks n period :=
  Nat.div_le_div_right (Nat.add_le_add_right (Nat.mul_le_mul_right period h) _)

section
variable {tr : Tracker} {x y : Nat}

/-- T(x) is counted from R outside a hold. -/
theorem Tracker.timeOf_not_holding (h : tr.state ≠ .holding) (x : Nat) : tr.timeOf x = tr.plainTime x := by
  rw [Tracker.timeOf]
  split
  · exact absurd ‹_› h
  · rfl

theorem Tracker.timeOf_holding {h : Hold} (hs : tr.state = .holding) (hh : tr.hold = some h) (x : Nat) :
    tr.timeOf x = if h.position < x then tr.holdTime h x else tr.plainTime x := by
  rw [Tracker.timeOf, hs, hh]

/-- T(x) is counted from R at and below the position held. -/
theorem Tracker.timeOf_holding_le {h : Hold} (hs : tr.state = .holding) (hh : tr.hold = some h) (hx : x ≤ h.position) :
    tr.timeOf x = tr.plainTime x := by
  rw [Tracker.timeOf_holding hs hh, if_neg (Nat.not_lt.mpr hx)]

theorem Tracker.plainTime_eq_add {r : Tick} (hr : tr.refTime = some r) (hx : tr.refPos ≤ x) :
    tr.plainTime x = r + offsetTicks (x - tr.refPos) tr.period := by
  rw [Tracker.plainTime, if_pos hx, hr, Option.getD_some]

theorem Tracker.plainTime_eq_sub {r : Tick} (hr : tr.refTime = some r) (hx : x < tr.refPos) :
    tr.plainTime x = r - offsetTicks (tr.refPos - x) tr.period := by
  rw [Tracker.plainTime, if_neg (Nat.not_le.mpr hx), hr, Option.getD_some]

/-- The ticks from R to T(x), below 0 for a position below X. -/
def Tracker.offset (tr : Tracker) (x : Nat) : Int :=
  if tr.refPos ≤ x then (min (spanTicks (x - tr.refPos) tr.period) Config.timeSpan : Nat)
  else -(min (spanTicks (tr.refPos - x) tr.period) Config.timeSpan : Nat)

theorem Tracker.plainTime_eq_offset (tr : Tracker) (x : Nat) :
    tr.plainTime x = tr.refTime.getD 0 + BitVec.ofInt 32 (tr.offset x) := by
  rw [Tracker.plainTime, Tracker.offset]
  split
  · rw [BitVec.ofInt_natCast]
    rfl
  · rw [BitVec.ofInt_neg, BitVec.ofInt_natCast, ← sub_eq_add_neg]
    rfl

theorem Tracker.offset_bounds (tr : Tracker) (x : Nat) : -1048576 ≤ tr.offset x ∧ tr.offset x ≤ 1048576 := by
  have hmin : ∀ n, min n Config.timeSpan ≤ 1048576 := fun n => Nat.min_le_right n _
  have habove := hmin (spanTicks (x - tr.refPos) tr.period)
  have hbelow := hmin (spanTicks (tr.refPos - x) tr.period)
  rw [Tracker.offset]
  split <;> omega

theorem Tracker.offset_mono (tr : Tracker) (h : x ≤ y) : tr.offset x ≤ tr.offset y := by
  have habove := spanTicks_mono (Nat.sub_le_sub_right h tr.refPos) tr.period
  have hbelow := spanTicks_mono (Nat.sub_le_sub_left h tr.refPos) tr.period
  rw [Tracker.offset, Tracker.offset]
  split
  · rw [if_pos (by omega)]
    omega
  · split <;> omega

/-- R108: a later position is not heard earlier. -/
theorem Tracker.timeOf_mono (h : tr.state ≠ .holding) (hxy : x ≤ y) : 0 ≤ timeDiff (tr.timeOf y) (tr.timeOf x) := by
  have ⟨hxlow, hxhigh⟩ := tr.offset_bounds x
  have ⟨hylow, hyhigh⟩ := tr.offset_bounds y
  have hmono := tr.offset_mono hxy
  rw [Tracker.timeOf_not_holding h, Tracker.timeOf_not_holding h, Tracker.plainTime_eq_offset,
    Tracker.plainTime_eq_offset, timeDiff_add_ofInt _ (by omega) (by omega)]
  omega

/-! ### pos(t) (R109) -/

section
variable {r t : Tick} {elapsed : Nat}

theorem Tracker.posAt_tracking (h : tr.state = .leading ∨ tr.state = .following ∨ tr.state = .coasting)
    (hr : tr.refTime = some r) (t : Tick) : tr.posAt t = if isAfter r t then some tr.refPos else
      some (min (tr.refPos + min (t - r).toNat Config.timeSpan * Config.pulseUnits / tr.period) Config.lastPosition) := by
  rw [Tracker.posAt, hr]
  obtain h | h | h := h <;> rw [h] <;> rfl

theorem Tracker.posAt_before (h : tr.state = .leading ∨ tr.state = .following ∨ tr.state = .coasting)
    (hr : tr.refTime = some r) (ht : 0 < timeDiff r t) : tr.posAt t = some tr.refPos := by
  rw [Tracker.posAt_tracking h hr, isAfter, decide_eq_true ht, if_pos rfl]

theorem timeDiff_ref_elapsed (r : Tick) (he : elapsed ≤ 1048576) :
    timeDiff r (r + BitVec.ofNat 32 elapsed) = -(elapsed : Int) := by
  have h := timeDiff_add_ofInt r (a := 0) (b := elapsed) (by omega) (by omega)
  rwa [BitVec.ofInt_natCast, show r + BitVec.ofInt 32 0 = r from add_zero r, zero_sub] at h

/-- The position heard some ticks after R. -/
theorem Tracker.posAt_elapsed (h : tr.state = .leading ∨ tr.state = .following ∨ tr.state = .coasting)
    (hr : tr.refTime = some r) (he : elapsed ≤ 1048576) :
    tr.posAt (r + BitVec.ofNat 32 elapsed) = some (min (tr.refPos + elapsed * 61440 / tr.period) 16777215) := by
  have hbefore : isAfter r (r + BitVec.ofNat 32 elapsed) = false := by
    rw [isAfter, timeDiff_ref_elapsed r he]
    exact decide_eq_false (by omega)
  have helapsed : min (r + BitVec.ofNat 32 elapsed - r).toNat Config.timeSpan = elapsed := by
    rw [add_sub_cancel_left, BitVec.toNat_ofNat, Nat.mod_eq_of_lt (by omega)]
    exact Nat.min_eq_left he
  rw [Tracker.posAt_tracking h hr, hbefore, helapsed]
  rfl

/-- The pulses that some ticks hold take no more than those ticks, and less than a pulse and a half tick fewer. -/
theorem spanTicks_elapsed {period : Nat} (hp : 1 ≤ period) (elapsed : Nat) :
    spanTicks (elapsed * 61440 / period) period ≤ elapsed ∧
      (elapsed - spanTicks (elapsed * 61440 / period) period) * 61440 ≤ period + 30720 := by
  have hle : elapsed * 61440 / period * period ≤ elapsed * 61440 := Nat.div_mul_le_self _ _
  have hlt : elapsed * 61440 < elapsed * 61440 / period * period + period := Nat.lt_div_mul_add hp
  simp only [spanTicks, Config.pulseUnits]
  omega

/-- R109: T of the position heard at a time is not after that time, and less than a pulse and a half tick before it. -/
theorem Tracker.timeOf_heard (hs : tr.state ≠ .holding) (hr : tr.refTime = some r) (hp : 1 ≤ tr.period)
    (he : elapsed ≤ 1048576) (hx : x = tr.refPos + elapsed * 61440 / tr.period) :
    0 ≤ timeDiff (r + BitVec.ofNat 32 elapsed) (tr.timeOf x) ∧
      timeDiff (r + BitVec.ofNat 32 elapsed) (tr.timeOf x) * 61440 ≤ (tr.period : Int) + 30720 := by
  have ⟨hle, hnear⟩ := spanTicks_elapsed hp elapsed
  have hoffset : tr.offset x = (spanTicks (elapsed * 61440 / tr.period) tr.period : Nat) := by
    rw [Tracker.offset, if_pos (hx ▸ Nat.le_add_right _ _), hx, Nat.add_sub_cancel_left,
      Nat.min_eq_left (show _ ≤ Config.timeSpan from hle.trans he)]
  rw [Tracker.timeOf_not_holding hs, Tracker.plainTime_eq_offset, hr, Option.getD_some, hoffset,
    ← BitVec.ofInt_natCast, timeDiff_add_ofInt _ (by omega) (by omega)]
  omega

end

/-! ### W (R110) -/

theorem Tracker.windowTicks_range (hlow : 24 ≤ tr.params.window) (hhigh : tr.params.window ≤ 240)
    (hleast : 64000 ≤ tr.period) (hgreatest : tr.period ≤ 512000) :
    25 ≤ tr.windowTicks ∧ tr.windowTicks ≤ 2000 :=
  ⟨(Nat.div_le_div_right (Nat.mul_le_mul hlow hleast) : 24 * 64000 / 61440 ≤ _),
    (Nat.div_le_div_right (Nat.mul_le_mul hhigh hgreatest) : _ ≤ 240 * 512000 / 61440)⟩

end

/-- Settles O46: T(x) by the tracker's state and the side of its position, pos(t) by the state and the side of R. -/
theorem timeAndPosition : Obligations.TimeAndPosition := by
  refine ⟨fun tr r x hr hs => ?_, fun tr h r x hs hh hx hr => ?_, fun tr x y hs hxy => Tracker.timeOf_mono hs hxy,
    fun tr h x hs hh hx => ?_, fun tr r t hr => ⟨fun hs => ?_, fun hs => ?_, fun hs => ?_⟩,
    fun tr => Tracker.windowTicks_range⟩
  · rw [Tracker.timeOf_not_holding hs]
    exact ⟨Tracker.plainTime_eq_add hr, Tracker.plainTime_eq_sub hr⟩
  · rw [Tracker.timeOf_holding_le hs hh hx]
    exact ⟨Tracker.plainTime_eq_add hr, Tracker.plainTime_eq_sub hr⟩
  · rw [Tracker.timeOf_holding hs hh, if_pos hx, Tracker.holdTime]
    exact ⟨fun hlt => if_pos hlt, fun hle => if_neg (Nat.not_lt.mpr hle)⟩
  · rw [Tracker.posAt, hs]
  · rw [Tracker.posAt, hs]
  · have hnot : tr.state ≠ .holding := by obtain hs | hs | hs := hs <;> simp [hs]
    refine ⟨Tracker.posAt_before hs hr, fun elapsed he ht => ?_⟩
    rw [ht]
    exact ⟨Tracker.posAt_elapsed hs hr he, fun hp x => Tracker.timeOf_heard hnot hr hp he⟩

end Sys2Proof.Machine
end

section
/-! SUPPORT (O47, O48, O51, O53). An event that changes what playing changes: what it brings about, and that it does
nothing when its effect is none. -/

namespace Sys2Proof.Machine

section
variable {c : Instr} {s : State} {f : Env → Play → Play} {due : Env → Play → Bool}

theorem exec_act (hc : exec c s = .next (s.event (fun s => s.act f))) (hs : Awake s) :
    exec c s = .next (afterwards s (f s.toEnv s.play)) := by
  rw [hc, State.event_awake hs]
  rfl

/-- With nothing left over to be taken at once, an effect that leaves nothing to be taken is the whole of it. -/
theorem exec_act_settled (hc : exec c s = .next (s.event (fun s => s.act f))) (hs : Awake s)
    (h : (f s.toEnv s.play).atOnce = []) : exec c s = .next { s with play := f s.toEnv s.play } := by
  rw [exec_act hc hs, afterwards_settled h]

theorem exec_act_same (hc : exec c s = .next (s.event (fun s => s.act f))) (hs : Awake s)
    (h : f s.toEnv s.play = s.play) (hsettled : Settled s) : exec c s = .next s := by
  rw [exec_act_settled hc hs (h.symm ▸ hsettled), h]

theorem exec_act_due (hc : exec c s = .next (s.event (fun s => s.act (fun e p => if due e p then f e p else p))))
    (hs : Awake s) (hd : due s.toEnv s.play = true) : exec c s = .next (afterwards s (f s.toEnv s.play)) := by
  rw [exec_act hc hs, if_pos hd]

theorem exec_act_not_due (hc : exec c s = .next (s.event (fun s => s.act (fun e p => if due e p then f e p else p))))
    (hs : Awake s) (hd : due s.toEnv s.play = false) (hsettled : Settled s) : exec c s = .next s :=
  exec_act_same hc hs (if_neg (by simp [hd])) hsettled

end

/-- A counter that goes up by one under a condition changes the counters alone. -/
theorem Play.countIf_eq (p : Play) (b : Bool) (k : Counter) : p.countIf b k =
    { p with counters := if b then p.counters.modify k.index (fun n => min (n + 1) 65535) else p.counters } := by
  cases b <;> rfl

end Sys2Proof.Machine
end

section
/-! PROOF (O47). A correction: the tempo measure of R116 and R117 case by case, and what it counts; and the rebase
(R111). -/

namespace Sys2Proof.Machine

/-! ### The tempo measure (R116, R117) -/

/-- The counters after a tempo measure (R116, R117). -/
def TempoStep.counted (step : TempoStep) (counters : List Nat) : List Nat :=
  let counters := if step.implausible then counters.modify 3 (fun n => min (n + 1) 65535) else counters
  let counters := if step.limited then counters.modify 4 (fun n => min (n + 1) 65535) else counters
  if step.clamped then counters.modify 5 (fun n => min (n + 1) 65535) else counters

section
variable {tr : Tracker} {a : Nat} {t : Tick} {m : MatchPoint} {b : Bounds} {span pobs : Int}

theorem Tracker.observed_eq_none (h : tr.lastAnchor = none ∨ ∃ m, tr.lastAnchor = some m ∧
    ((a : Int) - m.position < 120 ∨ 1920 < (a : Int) - m.position)) : tr.observed a t = none := by
  obtain h | ⟨m, h, hspan⟩ := h
  · rw [Tracker.observed, h]
  · rw [Tracker.observed, h]
    exact if_neg (by omega)

theorem Tracker.observed_eq_some (h : tr.lastAnchor = some m) (hspan : span = (a : Int) - m.position)
    (hlow : 120 ≤ span) (hhigh : span ≤ 1920) :
    tr.observed a t = some ((timeDiff t m.time * 61440 + span / 2) / span) := by
  rw [Tracker.observed, h, hspan]
  exact if_pos (by omega)

theorem Tracker.limits_eq (hb : tr.bounds = some b) : tr.limits = b := by
  rw [Tracker.limits, hb, Option.getD_some]

/-- R116: with no span to measure over, the period and the counters stay. -/
theorem Tracker.tempoStep_unmeasured (h : tr.observed a t = none) (counters : List Nat) :
    (tr.tempoStep a t).period = tr.period ∧ (tr.tempoStep a t).counted counters = counters := by
  rw [Tracker.tempoStep, h]
  exact ⟨rfl, rfl⟩

/-- R116: an implausible period is counted, and the period stays. -/
theorem Tracker.tempoStep_implausible (h : tr.observed a t = some pobs) (hb : tr.bounds = some b)
    (hout : pobs < ((b.least / 2 : Nat) : Int) ∨ 2 * (b.greatest : Int) < pobs) (counters : List Nat) :
    (tr.tempoStep a t).period = tr.period ∧
      (tr.tempoStep a t).counted counters = counters.modify 3 (fun n => min (n + 1) 65535) := by
  have hstep : tr.tempoStep a t = { period := tr.period, implausible := true, limited := false, clamped := false } := by
    rw [Tracker.tempoStep, h, Tracker.limits_eq hb]
    exact if_pos hout
  rw [hstep]
  exact ⟨rfl, rfl⟩

theorem Tracker.tempoStep_plausible (h : tr.observed a t = some pobs) (hb : tr.bounds = some b)
    (hlow : ((b.least / 2 : Nat) : Int) ≤ pobs) (hhigh : pobs ≤ 2 * (b.greatest : Int)) :
    tr.tempoStep a t = tr.plausibleStep pobs := by
  rw [Tracker.tempoStep, h, Tracker.limits_eq hb]
  exact if_neg (by omega)

/-- R117: a plausible period moves the period by the gain's share of the difference, limited to the step limit and
then to the item's bounds; each cut is counted. -/
theorem Tracker.plausibleStep_spec (hb : tr.bounds = some b) {want lim step : Int}
    (hwant : want = ((pobs - tr.period) * tr.params.tempoGain + 8) / 16)
    (hlim : lim = (tr.period : Int) * tr.params.stepLimit / 256) (hstep : step = max (-lim) (min want lim)) :
    ((tr.plausibleStep pobs).period : Int) = max (b.least : Int) (min (tr.period + step) (b.greatest : Int)) ∧
    (tr.plausibleStep pobs).implausible = false ∧ (tr.plausibleStep pobs).limited = decide (step ≠ want) ∧
    (tr.plausibleStep pobs).clamped = decide (((tr.plausibleStep pobs).period : Int) ≠ tr.period + step) := by
  have hperiod : ((tr.plausibleStep pobs).period : Int) =
      max (b.least : Int) (min (tr.period + step) (b.greatest : Int)) := by
    rw [← Tracker.limits_eq hb, hstep, hwant, hlim]
    exact Int.toNat_of_nonneg (le_max_of_le_left (Int.natCast_nonneg _))
  refine ⟨hperiod, rfl, ?_, ?_⟩
  · rw [hstep, hwant, hlim]
    rfl
  · rw [hperiod, ← Tracker.limits_eq hb, hstep, hwant, hlim]
    rfl

end

/-! ### The correction (R115 to R119) -/

section
variable {e : Env} {a : Nat} {t : Tick} {p : Play}

theorem takeCorrection_refused {tag : Option Nat} (h : p.tracker.tracking = false ∨ tag ≠ p.tracker.tag) :
    takeCorrection e a t tag p = p :=
  if_neg (fun ⟨htracking, htag⟩ => h.elim (fun h => by simp [h] at htracking) (fun h => h htag))

/-- A taken correction is a tracker update of the corrected tracker, with its counters and latch TRACK REGAINED. -/
theorem takeCorrection_taken (h : p.tracker.tracking = true) : takeCorrection e a t p.tracker.tag p =
    trackerUpdate e { p with
      tracker := p.tracker.corrected a t
      counters := (p.tracker.tempoStep a t).counted p.counters
      latches := if p.tracker.state = .coasting then p.latches ||| 1024#19 else p.latches } := by
  rw [takeCorrection, if_pos ⟨h, rfl⟩]
  simp only [Play.countIf_eq]
  split <;> rfl

end

/-! ### The rebase (R111) -/

section
variable {s : State}

theorem rebaseDue_eq_false (h : s.play.tracker.tracking = false ∨
    ∀ r, s.play.tracker.refTime = some r → hasCome s.clock (r + 524288#32) = false) :
    rebaseDue s.toEnv s.play = false := by
  rw [rebaseDue]
  obtain h | h := h
  · rw [h, Bool.false_and]
  · cases hr : s.play.tracker.refTime with
    | none => exact Bool.and_false _
    | some r => rw [dueAfter_some, show hasCome s.clock (r + ticks Config.rebaseSpan) = false from h r hr, Bool.and_false]

theorem rebaseDue_eq_true {r : Tick} (h : s.play.tracker.tracking = true) (hr : s.play.tracker.refTime = some r)
    (hcome : hasCome s.clock (r + 524288#32) = true) : rebaseDue s.toEnv s.play = true := by
  rw [rebaseDue, h, hr, Bool.true_and]
  exact hcome

theorem rebaseNow_eq {e : Env} {p : Play} {x : Nat} (h : p.tracker.posAt e.clock = some x) : rebaseNow e p =
    trackerUpdate e { p with tracker := { p.tracker with refPos := x, refTime := some (p.tracker.timeOf x) } } := by
  simp only [rebaseNow, h]

end

/-- Settles O47: a correction by the three outcomes of its tempo measure, and a rebase by whether it has come. -/
theorem correctionsAndRebase : Obligations.CorrectionsAndRebase := by
  refine ⟨fun e a t tag p => takeCorrection_refused, fun e a t p b W err htracking hb hW herr => ?_,
    fun s hs => ⟨fun h => exec_act_not_due rfl hs (rebaseDue_eq_false h), fun r x tr htracking hr hcome hx htr => ?_⟩⟩
  · refine ⟨(p.tracker.tempoStep a t).period, (p.tracker.tempoStep a t).counted p.counters,
      fun h => Tracker.tempoStep_unmeasured (Tracker.observed_eq_none h) _,
      fun m span pobs hm hspan hlow hhigh hpobs => ?_, fun tr q htr hq => ?_⟩
    · have hobserved := Tracker.observed_eq_some (t := t) hm hspan hlow hhigh
      rw [← hpobs] at hobserved
      refine ⟨fun hout => Tracker.tempoStep_implausible hobserved hb hout _,
        fun hleast hgreatest want lim step hwant hlim hstep => ?_⟩
      obtain ⟨hperiod, himplausible, hlimited, hclamped⟩ := Tracker.plausibleStep_spec hb hwant hlim hstep
      rw [Tracker.tempoStep_plausible hobserved hb hleast hgreatest]
      refine ⟨hperiod, _, rfl, ?_⟩
      simp [TempoStep.counted, himplausible, hlimited, hclamped]
    · have hcorrected : p.tracker.corrected a t = tr := by
        rw [htr, herr, hW]
        rfl
      rw [takeCorrection_taken htracking, hcorrected, hq]
      exact trackerUpdate_eq e tr { p with
        counters := (p.tracker.tempoStep a t).counted p.counters
        latches := if p.tracker.state = .coasting then p.latches ||| 1024#19 else p.latches }
  · rw [exec_act_due rfl hs (rebaseDue_eq_true htracking hr hcome), rebaseNow_eq hx, ← htr, trackerUpdate_eq]

end Sys2Proof.Machine
end

section
/-! SUPPORT (O48, O53). What a hold's start and its end are made of (R123, R126, R167, R168): the play that enters
HOLDING, the records a retirement keeps, and the records once a hold has ended. -/

namespace Sys2Proof.Machine

/-! ### A hold's start (R123) -/

section
variable {e : Env} {p : Play}

theorem Tracker.tracking_of_holding {tr : Tracker} (h : tr.state = .holding) : tr.tracking = false := by
  rw [Tracker.tracking, h]
  rfl

/-- While HOLDING no window closes and no fermata expiry is taken. -/
theorem deriveExpiries_holding (h : p.tracker.state = .holding) : deriveExpiries e p = { p with
    matcher := { p.matcher with windowClose := none }
    reader := { p.reader with schedAt := schedulingFor e p }
    tracker := { p.tracker with fermataAt := p.tracker.fermata.map (fun (f : Fermata) => p.tracker.timeOf f.position) }
    atOnce := p.atOnce ++ (if dueAt e.clock (schedulingFor e p) then [.scheduling] else []) } := by
  have htracking := Tracker.tracking_of_holding h
  have hwindow : windowCloseFor p.matcher p.tracker = none := if_neg (fun hopen => by simp [htracking] at hopen)
  rw [deriveExpiries_eq, hwindow, htracking]
  simp

/-- The tracker that enters HOLDING: a pending fermata at the position held is gone (R121, R122). -/
def Tracker.enterHolding (tr : Tracker) (hold : Hold) (now : Tick) : Tracker :=
  let entered := { tr with
    state := .holding, refPos := hold.position, refTime := some now, hold := some hold
    fermata := tr.fermata.filter (fun g => decide (g.position ≠ hold.position)) }
  { entered with fermataAt := entered.fermata.map (fun g => entered.timeOf g.position) }

/-- The pending fermata of the position held is the one held. -/
theorem Tracker.enterHolding_pending {tr : Tracker} {hold : Hold} {f : Fermata} (hf : tr.fermata = some f)
    (hpos : f.position = hold.position) (now : Tick) : tr.enterHolding hold now = { tr with
      state := .holding, refPos := hold.position, refTime := some now, hold := some hold, fermata := none
      fermataAt := none } := by
  simp [Tracker.enterHolding, hf, hpos, Option.filter]

theorem enterHold_eq {entry : HoldEntry} {f : Fermata} {tr : Tracker} {q : Play}
    (htr : tr = p.tracker.enterHolding (holdRecordFor e p.tracker entry f) e.clock)
    (hq : q = { p with
      latches := p.latches ||| 2048#19
      tracker := tr
      matcher := { p.matcher with candidates := p.matcher.candidates.map (fun _ => none), windowClose := none }
      slots := slotsAtHoldStart e tr f.position p.slots }) : enterHold e entry f p = { q with
    reader := { q.reader with schedAt := schedulingFor e q }
    atOnce := q.atOnce ++ (onTimesDue e q).map Due.onTime ++
      (if dueAt e.clock (schedulingFor e q) then [.scheduling] else []) } := by
  have hentered : enterHold e entry f p = deriveExpiries e (convertAtHoldStart e f.position
      ({ p with
        tracker := { tr with fermataAt := p.tracker.fermataAt }
        matcher := { p.matcher with candidates := p.matcher.candidates.map (fun _ => none) } }.latch .holdStart)) := by
    rw [htr, enterHold, Tracker.enterHolding]
    cases p.tracker.fermata with
    | none => rfl
    | some g => by_cases hg : g.position = f.position <;> simp [Option.filter, hg, holdRecordFor]
  have hholding : tr.state = .holding := by rw [htr, Tracker.enterHolding]
  rw [hentered, deriveExpiries_holding hholding, hq, htr]
  rfl

end

/-! ### What a retirement keeps (R158) -/

/-- Two plays that differ in their keying records and in what is to be taken at once alone. -/
def KeysAlone (p q : Play) : Prop := q = { p with slots := q.slots, atOnce := q.atOnce }

@[refl] theorem KeysAlone.refl (p : Play) : KeysAlone p p := rfl

@[trans] theorem KeysAlone.trans {p q r : Play} (h : KeysAlone p q) (h' : KeysAlone q r) : KeysAlone p r := by
  rw [KeysAlone, h', h]

/-- A record with other times and another successor; a keyed one keeps its on time. -/
def Retimed (r r' : KeyRecord) : Prop :=
  r' = { r with onTime := r'.onTime, offTime := r'.offTime, successor := r'.successor } ∧
  (r.state ≠ .scheduled → r'.onTime = r.onTime)

theorem Retimed.refl (r : KeyRecord) : Retimed r r := ⟨rfl, fun _ => rfl⟩

section
variable {r r' r'' : KeyRecord}

theorem Retimed.state_eq (h : Retimed r r') : r'.state = r.state := by rw [h.1]
theorem Retimed.span_eq (h : Retimed r r') : r'.span = r.span := by rw [h.1]
theorem Retimed.deadline_eq (h : Retimed r r') : r'.deadline = r.deadline := by rw [h.1]
theorem Retimed.holdKind_eq (h : Retimed r r') : r'.holdKind = r.holdKind := by rw [h.1]

theorem Retimed.trans (h : Retimed r r') (h' : Retimed r' r'') : Retimed r r'' := by
  refine ⟨?_, fun hs => (h'.2 (h.state_eq ▸ hs)).trans (h.2 hs)⟩
  rw [h'.1, h.1]

end

theorem retimed_deriveOn (e : Env) (tr : Tracker) (r : KeyRecord) : Retimed r (deriveOn e tr r) := by
  rw [deriveOn]
  split
  · exact ⟨rfl, fun hs => absurd ‹_› hs⟩
  · exact .refl r

theorem deriveOff_of_not_held {r : KeyRecord} {sp : Span} (e : Env) (tr : Tracker) (slots : List (Option KeyRecord))
    (hspan : r.span = some sp) (hs : r.state ≠ .held) :
    deriveOff e tr slots r = { r with offTime := some (offTimeFor e tr slots r sp.stop) } := by
  rw [deriveOff]
  split
  · exact absurd ‹_› hs
  · rename_i hsp _
    rw [Option.some.inj (hspan.symm.trans hsp)]
  · simp_all

theorem retimed_deriveOff (e : Env) (tr : Tracker) (slots : List (Option KeyRecord)) (r : KeyRecord) :
    Retimed r (deriveOff e tr slots r) := by
  rw [deriveOff]
  split
  · exact .refl r
  · exact ⟨rfl, fun _ => rfl⟩
  · exact .refl r

/-- The record of slot j, if it has one, is kept but for its times and its successor. -/
def KeepsRecord (j : Nat) (p q : Play) : Prop :=
  ∀ r, p.record j = some r → ∃ r', q.record j = some r' ∧ Retimed r r'

theorem KeepsRecord.refl (j : Nat) (p : Play) : KeepsRecord j p p := fun r h => ⟨r, h, .refl r⟩

theorem KeepsRecord.trans {j : Nat} {p q u : Play} (h : KeepsRecord j p q) (h' : KeepsRecord j q u) :
    KeepsRecord j p u := by
  intro r hr
  obtain ⟨r', hr', hretimed⟩ := h r hr
  obtain ⟨r'', hr'', hretimed'⟩ := h' r' hr'
  exact ⟨r'', hr'', hretimed.trans hretimed'⟩

section
variable (e : Env) (i j : Nat) (p : Play)

theorem keepsRecord_of_slots {p q : Play} (h : q.slots = p.slots) : KeepsRecord j p q :=
  fun r hr => ⟨r, by rw [Play.record, h]; exact hr, .refl r⟩

/-- A record written over keeps each record when the one before it is kept in it. -/
theorem keepsRecord_setRec {p : Play} {r r' : KeyRecord} (h : p.record i = some r) (hr : Retimed r r') :
    KeepsRecord j p (p.setRec i (some r')) := by
  intro x hx
  rw [Play.record_setRec]
  by_cases hij : i = j
  · subst hij
    rw [if_pos ⟨rfl, Play.lt_of_record h⟩]
    obtain rfl : r = x := Option.some.inj (h.symm.trans hx)
    exact ⟨r', rfl, hr⟩
  · rw [if_neg (fun h => hij h.1)]
    exact ⟨x, hx, .refl x⟩

theorem keepsRecord_setRec_other (o : Option KeyRecord) (h : j ≠ i) : KeepsRecord j p (p.setRec i o) := by
  intro x hx
  rw [Play.record_setRec, if_neg (fun hij => h hij.1.symm)]
  exact ⟨x, hx, .refl x⟩

theorem pushIfDue_keysAlone : KeysAlone p (pushIfDue e i p) := by
  unfold pushIfDue
  repeat' split
  all_goals rfl

theorem rederive_keeps : KeysAlone p (rederive e i p) ∧ KeepsRecord j p (rederive e i p) := by
  unfold rederive
  split
  · exact ⟨rfl, .refl j p⟩
  · rename_i r hr
    refine ⟨.trans (q := p.setRec i _) rfl (pushIfDue_keysAlone e i _), ?_⟩
    refine .trans (keepsRecord_setRec i j hr ?_) (keepsRecord_of_slots j (pushIfDue_frame e i _).2.2)
    exact (retimed_deriveOn e _ r).trans (retimed_deriveOff e _ _ _)

theorem unlink_keeps : KeysAlone p (unlink e i p) ∧ KeepsRecord j p (unlink e i p) := by
  unfold unlink
  split
  · exact ⟨rfl, .refl j p⟩
  · rename_i k _
    split
    · exact ⟨rfl, .refl j p⟩
    · rename_i r hr
      have ⟨hkeys, hkeeps⟩ := rederive_keeps e k j (p.setRec k (some { r with successor := none }))
      exact ⟨.trans (q := p.setRec k _) rfl hkeys, .trans (keepsRecord_setRec k j hr (r' := { r with successor := none }) ⟨rfl, fun _ => rfl⟩) hkeeps⟩

/-- A retirement writes keying records alone, and keeps every record but the one it retires. -/
theorem retire_keeps : KeysAlone p (retire e i p) ∧ (j ≠ i → KeepsRecord j p (retire e i p)) := by
  unfold retire
  split
  · exact ⟨rfl, fun _ => .refl j p⟩
  · have ⟨hkeys, hkeeps⟩ := unlink_keeps e i j (p.setRec i none)
    have hunlinked : KeysAlone p (unlink e i (p.setRec i none)) := .trans (q := p.setRec i none) rfl hkeys
    have hrecord (hj : j ≠ i) : KeepsRecord j p (unlink e i (p.setRec i none)) :=
      .trans (keepsRecord_setRec_other i j p none hj) hkeeps
    simp only
    split
    · exact ⟨hunlinked, hrecord⟩
    · split
      · exact ⟨hunlinked, hrecord⟩
      · exact ⟨hunlinked.trans rfl, fun hj => (hrecord hj).trans (keepsRecord_of_slots j rfl)⟩

end

/-! ### Several retirements -/

/-- The play once the records of some slots are retired, one after another. -/
def retireEach (e : Env) (l : List Nat) (p : Play) : Play := l.foldl (fun p i => retire e i p) p

section
variable {e : Env} {l : List Nat} {p : Play} {j : Nat}

theorem retireEach_cons (i : Nat) : retireEach e (i :: l) p = retireEach e l (retire e i p) := rfl

theorem retireEach_keysAlone : KeysAlone p (retireEach e l p) := by
  induction l generalizing p with
  | nil => rfl
  | cons i l ih => exact (retire_keeps e i 0 p).1.trans ih

theorem retireEach_keeps (h : j ∉ l) : KeepsRecord j p (retireEach e l p) := by
  induction l generalizing p with
  | nil => exact .refl j p
  | cons i l ih =>
    have ⟨hne, hrest⟩ := List.ne_and_not_mem_of_not_mem_cons h
    exact ((retire_keeps e i j p).2 hne).trans (ih hrest)

theorem retireEach_free (h : p.record j = none) : (retireEach e l p).record j = none := by
  induction l generalizing p with
  | nil => exact h
  | cons i l ih => exact ih ((retire_facts e i p).2.2.2.1 j h)

theorem retireEach_mem (h : j ∈ l) : (retireEach e l p).record j = none := by
  induction l generalizing p with
  | nil => exact absurd h List.not_mem_nil
  | cons i l ih =>
    rw [retireEach_cons]
    obtain rfl | hrest := List.mem_cons.mp h
    · exact retireEach_free (retire_facts e j p).2.2.1
    · exact ih hrest

end

/-! ### A hold's end (R126, R168) -/

/-- The slots of the records that a hold's end retires (R168). -/
def releasedSlots (resume : Nat) (p : Play) : List Nat := (p.records.filter (fun x => x.2.released resume)).map (·.1)

/-- The record of a slot after a change of every record. -/
theorem Play.record_mapSlots (f : KeyRecord → KeyRecord) (p : Play) (i : Nat) :
    Play.record { p with slots := p.slots.map (Option.map f) } i = (p.record i).map f := by
  rw [Play.record, Play.record, List.getElem?_map]
  cases p.slots[i]? with
  | none => rfl
  | some o => rfl

section
variable {e : Env} {p : Play} {resume i : Nat} {r : KeyRecord}

theorem mem_releasedSlots : i ∈ releasedSlots resume p ↔ ∃ r, p.record i = some r ∧ r.released resume = true := by
  simp only [releasedSlots, List.mem_map, List.mem_filter, Prod.exists, Play.mem_records]
  exact ⟨fun ⟨_, r, h, hi⟩ => ⟨r, hi ▸ h⟩, fun ⟨r, h⟩ => ⟨i, r, h, rfl⟩⟩

/-- A re-timing derives each record's times again, the on times first (R155, R166). -/
theorem record_retime (e : Env) (p : Play) (i : Nat) : (retime e p).record i = (p.record i).map (fun r =>
    deriveOff e p.tracker (p.slots.map (Option.map (deriveOn e p.tracker))) (deriveOn e p.tracker r)) :=
  calc (retime e p).record i
    _ = (Play.record { p with slots := p.slots.map (Option.map (deriveOn e p.tracker)) } i).map
          (deriveOff e p.tracker (p.slots.map (Option.map (deriveOn e p.tracker)))) :=
        Play.record_mapSlots _ { p with slots := p.slots.map (Option.map (deriveOn e p.tracker)) } i
    _ = _ := by
        rw [Play.record_mapSlots, Option.map_map]
        rfl

/-- A re-timing keeps a record but for its times, and gives a SOUNDING score record an off time. -/
theorem record_retime_some (e : Env) (h : p.record i = some r) : ∃ r', (retime e p).record i = some r' ∧
    Retimed r r' ∧ (r.state = .sounding → r.span.isSome = true → r'.offTime.isSome = true) := by
  have hon := retimed_deriveOn e p.tracker r
  rw [record_retime, h, Option.map_some]
  refine ⟨_, rfl, hon.trans (retimed_deriveOff e _ _ _), fun hsounding hspan => ?_⟩
  obtain ⟨sp, hsp⟩ := Option.isSome_iff_exists.mp hspan
  rw [deriveOff_of_not_held e _ _ (hon.span_eq.trans hsp) (by rw [hon.state_eq, hsounding]; decide)]
  rfl

theorem retimed_unholdRecord {r u : KeyRecord} (h : Retimed r u) : Retimed (unholdRecord r) (unholdRecord u) := by
  rw [unholdRecord, unholdRecord, h.state_eq, h.holdKind_eq]
  split
  · rename_i hheld
    have hon : u.onTime = r.onTime := h.2 (by rw [hheld.1]; decide)
    refine ⟨?_, fun _ => hon⟩
    rw [h.1]
  · exact h

/-- The play at a hold's end before it is re-timed: what is released is retired, and the rest is held no more. -/
def unheldPlay (e : Env) (resume : Nat) (p : Play) : Play :=
  { retireEach e (releasedSlots resume p) p with
    slots := (retireEach e (releasedSlots resume p) p).slots.map (Option.map unholdRecord) }

theorem convertAtHoldEnd_eq (e : Env) (resume : Nat) (p : Play) :
    convertAtHoldEnd e resume p = retime e (unheldPlay e resume p) := rfl

theorem record_unheldPlay (e : Env) (resume : Nat) (p : Play) (i : Nat) : (unheldPlay e resume p).record i =
    ((retireEach e (releasedSlots resume p) p).record i).map unholdRecord := Play.record_mapSlots _ _ i

theorem convertAtHoldEnd_keysAlone (e : Env) (resume : Nat) (p : Play) : KeysAlone p (convertAtHoldEnd e resume p) :=
  retireEach_keysAlone.trans (q := retireEach e (releasedSlots resume p) p) rfl

/-- R168.1: a record that a hold's end releases is retired. -/
theorem convertAtHoldEnd_released (e : Env) (h : p.record i = some r) (hr : r.released resume = true) :
    (convertAtHoldEnd e resume p).record i = none := by
  have hgone := retireEach_mem (e := e) (p := p) (mem_releasedSlots.mpr ⟨r, h, hr⟩)
  rw [convertAtHoldEnd_eq, record_retime, record_unheldPlay, hgone]
  rfl

/-- R168.2: any other record stays, held no longer by the tracker, and is re-timed. -/
theorem convertAtHoldEnd_kept (e : Env) (h : p.record i = some r) (hr : r.released resume = false) :
    ∃ r', (convertAtHoldEnd e resume p).record i = some r' ∧ Retimed (unholdRecord r) r' ∧
      ((unholdRecord r).state = .sounding → (unholdRecord r).span.isSome = true → r'.offTime.isSome = true) := by
  have hnot : i ∉ releasedSlots resume p := fun hmem => by
    obtain ⟨x, hx, hreleased⟩ := mem_releasedSlots.mp hmem
    obtain rfl : r = x := Option.some.inj (h.symm.trans hx)
    simp [hr] at hreleased
  obtain ⟨u, hu, hkept⟩ := retireEach_keeps (e := e) hnot r h
  have hunheld : (unheldPlay e resume p).record i = some (unholdRecord u) := by rw [record_unheldPlay, hu]; rfl
  obtain ⟨r', hr', hretimed, hoff⟩ := record_retime_some e hunheld
  have hunhold := retimed_unholdRecord hkept
  exact ⟨r', hr', hunhold.trans hretimed, fun hs hsp => hoff (hunhold.state_eq ▸ hs) (hunhold.span_eq ▸ hsp)⟩

end

section
variable {e : Env} {p : Play}

/-- R126: the play at a hold's end, before its records and expiries follow. -/
theorem endHold_eq {h : Hold} {tr : Tracker} (hs : p.tracker.state = .holding) (hh : p.tracker.hold = some h)
    (htr : tr = { p.tracker with
      refPos := h.resume
      refTime := some (e.clock + BitVec.ofNat 32 ((p.tracker.params.breath * p.tracker.period + 30720) / 61440))
      state := if p.tracker.matched then .following else .leading
      misses := 0, lastAnchor := none, hold := none }) :
    endHold e p = deriveExpiries e (convertAtHoldEnd e h.resume { p with
      tracker := tr
      latches := p.latches ||| 4096#19
      reader := { p.reader with
        wait := p.reader.wait.bind (fun w => if w ≤ h.position then none else some w) } }) := by
  have hwait : (if p.reader.wait.any (fun w => decide (w ≤ h.position)) then none else p.reader.wait) =
      p.reader.wait.bind (fun w => if w ≤ h.position then none else some w) := by
    cases p.reader.wait with
    | none => rfl
    | some w => by_cases hw : w ≤ h.position <;> simp [hw]
  rw [endHold, hs, hh, htr, ← hwait]
  rfl

/-- What the end of a hold leaves beside its keying records. -/
theorem holdEnded_fields {q : Play} {resume : Nat} (hq : q = deriveExpiries e (convertAtHoldEnd e resume p)) :
    q.tracker = { p.tracker with
      fermataAt := p.tracker.fermata.map (fun (f : Fermata) => p.tracker.timeOf f.position) } ∧
    q.latches = p.latches ∧ q.counters = p.counters ∧
    q.matcher = { p.matcher with windowClose := windowCloseFor p.matcher p.tracker } ∧
    ∀ i, q.record i = (convertAtHoldEnd e resume p).record i := by
  have hrecord : ∀ i, q.record i = (convertAtHoldEnd e resume p).record i := by
    rw [hq, deriveExpiries_eq]
    exact fun _ => rfl
  have hkeys : KeysAlone p (convertAtHoldEnd e resume p) := convertAtHoldEnd_keysAlone e resume p
  refine ⟨?_, ?_, ?_, ?_, hrecord⟩ <;> rw [hq, deriveExpiries_eq, hkeys]

end

end Sys2Proof.Machine
end

section
/-! PROOF (O48). The two ends of a hold (R121 to R126), and the keying records at each (R167, R168). -/

namespace Sys2Proof.Machine

/-! ### The records at a hold's start (R167) -/

section
variable {e : Env} {tr : Tracker} {f i : Nat} {slots : List (Option KeyRecord)} {r : KeyRecord} {sp : Span}

theorem holdRecord_of_not_sounding (h : r.state ≠ .sounding) : holdRecord f r = r := by
  rw [holdRecord]
  split
  · exact absurd ‹_› h
  · rfl

theorem holdRecord_planner (h : r.span = none) : holdRecord f r = r := by
  rw [holdRecord]
  split
  · simp_all
  · rfl

theorem holdRecord_sounding (hs : r.state = .sounding) (hsp : r.span = some sp) : holdRecord f r =
    if f < sp.stop then { r with state := .held, holdKind := some .tracker, offTime := none } else r := by
  rw [holdRecord]
  split
  · rename_i hsp' _
    rw [Option.some.inj (hsp.symm.trans hsp')]
  · simp_all

theorem deriveOn_keyed (h : r.state ≠ .scheduled) : deriveOn e tr r = r := by
  rw [deriveOn]
  split
  · exact absurd ‹_› h
  · rfl

theorem deriveOn_scheduled (hs : r.state = .scheduled) (hsp : r.span = some sp) :
    deriveOn e tr r = { r with onTime := onTimeFor e tr r.division sp.start } := by
  rw [deriveOn]
  split
  · rename_i hsp' _
    rw [Option.some.inj (hsp.symm.trans hsp')]
  · simp_all

theorem slotsAtHoldStart_getElem? (h : slots[i]? = some (some r)) {u : KeyRecord}
    (hu : deriveOn e tr (holdRecord f r) = u) : ∃ held, (slotsAtHoldStart e tr f slots)[i]? =
      some (some (if u.state = .scheduled then deriveOff e tr held u else u)) :=
  ⟨(slots.map (Option.map (holdRecord f))).map (Option.map (deriveOn e tr)), by simp [slotsAtHoldStart, h, hu]⟩

/-- What the start of a hold makes of a record that is then keyed. -/
theorem slotsAtHoldStart_keyed (h : slots[i]? = some (some r)) {u : KeyRecord} (hu : holdRecord f r = u)
    (hs : u.state ≠ .scheduled) : (slotsAtHoldStart e tr f slots)[i]? = some (some u) := by
  obtain ⟨held, hi⟩ := slotsAtHoldStart_getElem? h ((congrArg (deriveOn e tr) hu).trans (deriveOn_keyed hs))
  rw [hi, if_neg hs]

theorem slotsAtHoldStart_scheduled (h : slots[i]? = some (some r)) (hs : r.state = .scheduled)
    (hsp : r.span = some sp) : ∃ off, (slotsAtHoldStart e tr f slots)[i]? = some (some
      { r with onTime := onTimeFor e tr r.division sp.start, offTime := some off }) := by
  have hheld : holdRecord f r = r := holdRecord_of_not_sounding (by rw [hs]; decide)
  obtain ⟨held, hi⟩ :=
    slotsAtHoldStart_getElem? h ((congrArg (deriveOn e tr) hheld).trans (deriveOn_scheduled hs hsp))
  have hoff := deriveOff_of_not_held (r := { r with onTime := onTimeFor e tr r.division sp.start }) e tr held hsp
    (by rw [hs]; decide)
  rw [hi, if_pos hs, hoff]
  exact ⟨_, rfl⟩

/-- A record of the planner is no part of a hold's start. -/
theorem slotsAtHoldStart_planner (h : slots[i]? = some (some r)) (hsp : r.span = none) :
    (slotsAtHoldStart e tr f slots)[i]? = some (some r) := by
  have hon : deriveOn e tr r = r := by
    rw [deriveOn]
    split
    · simp_all
    · rfl
  have hoff (held : List (Option KeyRecord)) : deriveOff e tr held r = r := by
    rw [deriveOff]
    split <;> simp_all
  obtain ⟨held, hi⟩ := slotsAtHoldStart_getElem? h ((congrArg (deriveOn e tr) (holdRecord_planner hsp)).trans hon)
  rw [hi, hoff, ite_self]

end

/-! ### The records at a hold's end (R168) -/

section
variable {r : KeyRecord} {sp : Span} {resume : Nat}

theorem released_iff (hs : r.state = .held) (hsp : r.span = some sp) :
    r.released resume = true ↔ r.holdKind = some .tracker ∧ sp.stop ≤ resume := by
  simp [KeyRecord.released, hs, hsp]

theorem unholdRecord_tracker (hs : r.state = .held) (hk : r.holdKind = some .tracker) :
    unholdRecord r = { r with state := .sounding, holdKind := none } := if_pos ⟨hs, hk⟩

theorem unholdRecord_host (hk : r.holdKind = some .host) : unholdRecord r = r :=
  if_neg (fun h => by simp [hk] at h)

/-- R168: what the end of a hold makes of a HELD record, by what holds it and where it ends. -/
theorem convertAtHoldEnd_held {e : Env} {p : Play} {i : Nat} {o : Option KeyRecord}
    (ho : o = (convertAtHoldEnd e resume p).record i) (hr : p.record i = some r) (hheld : r.state = .held)
    (hsp : r.span = some sp) :
    (r.holdKind = some .tracker → sp.stop ≤ resume → o = none) ∧
    (r.holdKind = some .tracker → resume < sp.stop → ∃ r', o = some r' ∧ r'.state = .sounding ∧
      r'.holdKind = none ∧ r'.onTime = r.onTime ∧ r'.span = r.span ∧ r'.deadline = r.deadline ∧
      r'.offTime.isSome = true) ∧
    (r.holdKind = some .host → ∃ r', o = some r' ∧ r'.state = .held ∧ r'.holdKind = some .host ∧
      r'.span = r.span ∧ r'.deadline = r.deadline) := by
  have hkept (hnot : ¬ (r.holdKind = some .tracker ∧ sp.stop ≤ resume)) := convertAtHoldEnd_kept (resume := resume) e hr
    (Bool.eq_false_iff.mpr (mt (released_iff hheld hsp).mp hnot))
  rw [ho]
  refine ⟨fun hk hstop => convertAtHoldEnd_released e hr ((released_iff hheld hsp).mpr ⟨hk, hstop⟩),
    fun hk hstop => ?_, fun hk => ?_⟩
  · obtain ⟨r', hr', hretimed, hoff⟩ := hkept (fun h => Nat.not_le.mpr hstop h.2)
    rw [unholdRecord_tracker hheld hk] at hretimed hoff
    exact ⟨r', hr', hretimed.state_eq, hretimed.holdKind_eq, hretimed.2 (by simp), hretimed.span_eq,
      hretimed.deadline_eq, hoff rfl (by simp [hsp])⟩
  · obtain ⟨r', hr', hretimed, -⟩ := hkept (fun h => by simp [hk] at h)
    rw [unholdRecord_host hk] at hretimed
    exact ⟨r', hr', hretimed.state_eq.trans hheld, hretimed.holdKind_eq.trans hk, hretimed.span_eq,
      hretimed.deadline_eq⟩

end

/-! ### The two expiries (R121, R126) -/

section
variable {e : Env} {p : Play} {s : State}

theorem takeFermata_due {f : Fermata} {u : Tick} (ht : p.tracker.tracking = true) (hf : p.tracker.fermata = some f)
    (hu : p.tracker.fermataAt = some u) (hcome : hasCome e.clock u = true) :
    takeFermata e p = enterHold e .fermata f p := by
  have hd : fermataDue e p = true := by rw [fermataDue, ht, hf, hu]; exact hcome
  rw [takeFermata, if_pos hd, hf]

theorem maximumEndDue_eq_true {h : Hold} (hs : p.tracker.state = .holding) (hh : p.tracker.hold = some h)
    (hcome : hasCome e.clock h.maxEnd = true) : maximumEndDue e p = true := by
  rw [maximumEndDue, hs, hh]
  exact hcome

/-! ### Release reports (R125) -/

theorem takeRelease_not_holding (h : p.tracker.state ≠ .holding) (t : Tick) : takeRelease e t p = p := by
  rw [takeRelease]
  split
  · exact absurd ‹_› h
  · rfl

theorem takeRelease_holding {h : Hold} (hs : p.tracker.state = .holding) (hh : p.tracker.hold = some h) (t : Tick) :
    takeRelease e t p = if h.cueHeld = false ∧ timeDiff h.minEnd t ≤ 0 then endHold e p else p := by
  rw [takeRelease, hs, hh]
  simp [isAfter]

end

/-- Settles O48: the records at a hold's start by their state, the two expiries by whether they have come, the records
at a hold's end by what holds them, and a release report by the hold that it meets. -/
theorem holdsStartAndEnd : Obligations.HoldsStartAndEnd := by
  refine ⟨fun e tr f i slots r hr => ⟨slotsAtHoldStart_planner hr, fun sp hsp => ⟨fun hs hf => ?_, fun hs hf => ?_,
      fun hs => ?_, fun hs => slotsAtHoldStart_scheduled hr hs hsp⟩⟩,
    fun s hs => ⟨fun hd => exec_act_same rfl hs (takeFermata_not_due hd), fun f u tr q ht hf hu hcome htr hq => ?_,
      exec_act_not_due rfl hs, fun h tr q hstate hh hcome htr hq => ?_⟩,
    fun e t p => ⟨fun hs => takeRelease_not_holding hs t, fun h hs hh => ⟨fun hno => ?_, fun hcue hend => ?_⟩⟩⟩
  · exact slotsAtHoldStart_keyed hr ((holdRecord_sounding hs hsp).trans (if_pos hf)) (by simp)
  · exact slotsAtHoldStart_keyed hr ((holdRecord_sounding hs hsp).trans (if_neg (Nat.not_lt.mpr hf)))
      (by rw [hs]; decide)
  · exact slotsAtHoldStart_keyed hr (holdRecord_of_not_sounding (by rw [hs]; decide)) (by rw [hs]; decide)
  · have hentered : tr = s.play.tracker.enterHolding (holdRecordFor s.toEnv s.play.tracker .fermata f) s.clock := by
      rw [htr, Tracker.enterHolding_pending hf rfl]
      rfl
    rw [exec_act rfl hs, takeFermata_due ht hf hu hcome, enterHold_eq hentered hq, hq]
  · rw [exec_act_due rfl hs (maximumEndDue_eq_true hstate hh hcome), endHold_eq hstate hh htr, ← hq]
    obtain ⟨htracker, hlatches, hcounters, hmatcher, hrecord⟩ := holdEnded_fields hq
    exact ⟨rfl, htracker, hlatches, hcounters, hmatcher, fun i r sp hr hheld hsp =>
      convertAtHoldEnd_held (hrecord i) hr hheld hsp⟩
  · rw [takeRelease_holding hs hh, if_neg (fun hyes => by simp [hyes.1] at hno; omega)]
  · rw [takeRelease_holding hs hh, if_pos ⟨hcue, hend⟩]

end Sys2Proof.Machine
end

section
/-! PROOF (O51). The sections' tables (R134, R135), the section start (R113, R138), and the scheduling expiry (R139)
that READER PUT derives again (R151). -/

namespace Sys2Proof.Machine

/-! ### The lines of a give-out (R135) -/

/-- What runs through the first LINE END is a beginning of the events, with no LINE END before its last. -/
theorem throughLineEnd_spec (evs : List ScoreEvent) : ∃ rest, evs = throughLineEnd evs ++ rest ∧
    (∀ ev ∈ (throughLineEnd evs).dropLast, ev.lineEnd = false) ∧
    (rest = [] ∨ ∃ ev, (throughLineEnd evs).getLast? = some ev ∧ ev.lineEnd = true) := by
  induction evs with
  | nil => exact ⟨[], rfl, fun _ h => absurd h List.not_mem_nil, .inl rfl⟩
  | cons x evs ih =>
    by_cases hx : x.lineEnd = true
    · rw [throughLineEnd, if_pos hx]
      exact ⟨evs, rfl, fun _ h => absurd h List.not_mem_nil, .inr ⟨x, rfl, hx⟩⟩
    · obtain ⟨rest, heq, hbefore, hlast⟩ := ih
      rw [throughLineEnd, if_neg hx]
      refine ⟨rest, congrArg (x :: ·) heq, fun ev hev => ?_, hlast.imp_right fun ⟨ev, hev, hend⟩ => ⟨ev, ?_, hend⟩⟩
      · cases hrun : throughLineEnd evs with
        | nil => simp [hrun] at hev
        | cons y run =>
          rw [hrun, List.dropLast_cons_cons, List.mem_cons, ← hrun] at hev
          obtain rfl | hev := hev
          · exact Bool.eq_false_iff.mpr hx
          · exact hbefore ev hev
      · rw [List.getLast?_cons, hev, Option.getD_some]

theorem lineEndPlaces_length (k : Nat) (evs : List ScoreEvent) :
    (lineEndPlaces k evs).length = evs.countP (·.lineEnd) := by
  induction evs generalizing k with
  | nil => rfl
  | cons x evs ih => by_cases hx : x.lineEnd = true <;> simp [lineEndPlaces, hx, ih]

/-- A place of a LINE END parts the events, with as many LINE ENDs behind it as places follow. -/
theorem lineEndPlaces_split {k j : Nat} {evs : List ScoreEvent} {before after : List Nat}
    (h : lineEndPlaces k evs = before ++ j :: after) : ∃ front ev back, evs = front ++ ev :: back ∧
      j = k + front.length ∧ ev.lineEnd = true ∧ back.countP (·.lineEnd) = after.length := by
  induction evs generalizing k before with
  | nil => simp [lineEndPlaces] at h
  | cons x evs ih =>
    by_cases hx : x.lineEnd = true
    · rw [lineEndPlaces, if_pos hx] at h
      cases before with
      | nil =>
        obtain ⟨rfl, rfl⟩ := List.cons.inj h
        exact ⟨[], x, evs, rfl, rfl, hx, (lineEndPlaces_length _ evs).symm⟩
      | cons i before =>
        obtain ⟨front, ev, back, rfl, hj, hev, hback⟩ := ih (List.cons.inj h).2
        exact ⟨x :: front, ev, back, rfl, by rw [hj, List.length_cons]; omega, hev, hback⟩
    · rw [lineEndPlaces, if_neg hx] at h
      obtain ⟨front, ev, back, rfl, hj, hev, hback⟩ := ih h
      exact ⟨x :: front, ev, back, rfl, by rw [hj, List.length_cons]; omega, hev, hback⟩

/-- R135: the last line is what follows the last LINE END but one. -/
theorem lastLine_spec (evs : List ScoreEvent) : ∃ before, evs = before ++ lastLine evs ∧
    (evs.countP (·.lineEnd) ≤ 1 → before = []) ∧
    (1 < evs.countP (·.lineEnd) →
      (∃ ev, before.getLast? = some ev ∧ ev.lineEnd = true) ∧ (lastLine evs).countP (·.lineEnd) = 1) := by
  have hcount := lineEndPlaces_length 0 evs
  rw [lastLine]
  split
  · rename_i l j places hplaces
    have hsplit : lineEndPlaces 0 evs = places.reverse ++ j :: [l] := by
      simpa using congrArg List.reverse hplaces
    obtain ⟨front, ev, back, heq, hj, hev, hback⟩ := lineEndPlaces_split hsplit
    have hdrop : evs.drop (j + 1) = back := by
      rw [heq, List.append_cons]
      exact List.drop_left' (by simp [hj])
    rw [hsplit] at hcount
    refine ⟨front ++ [ev], ?_, fun hle => ?_, fun _ => ⟨⟨ev, List.getLast?_concat .., hev⟩, ?_⟩⟩
    · rw [hdrop, heq, List.append_assoc]
      rfl
    · simp at hcount
      omega
    · rw [hdrop, hback]
      rfl
  · rename_i hfew
    have hle : evs.countP (·.lineEnd) ≤ 1 := by
      rw [← hcount, ← List.length_reverse]
      match hplaces : (lineEndPlaces 0 evs).reverse with
      | [] => exact Nat.zero_le 1
      | [_] => exact Nat.le_refl 1
      | l :: j :: places => exact absurd hplaces (hfew l j places)
    exact ⟨[], rfl, fun _ => rfl, fun hlt => absurd hle (Nat.not_le.mpr hlt)⟩

/-! ### Greatest ends -/

/-- The greatest of some numbers, counted from 0, is 0 or one of them. -/
theorem foldl_max_zero (l : List Nat) : l.foldl max 0 = 0 ∨ l.foldl max 0 ∈ l := List.mem_cons.mp (foldl_max_mem 0)

/-- The greatest end position of some events is 0 or that of one of their notes. -/
theorem endOf_eq_zero_or (evs : List ScoreEvent) :
    endOf evs = 0 ∨ ∃ ev ∈ evs, ∃ note ∈ ev.notes, endOf evs = ev.position + note.duration := by
  obtain h | h := foldl_max_zero (evs.map (·.stop))
  · exact .inl h
  · obtain ⟨ev, hev, hstop⟩ := List.mem_map.mp h
    obtain hzero | hmem := foldl_max_zero (ev.notes.map (fun n => ev.position + n.duration))
    · exact .inl (hstop.symm.trans hzero)
    · obtain ⟨note, hnote, hend⟩ := List.mem_map.mp hmem
      exact .inr ⟨ev, hev, note, hnote, hstop.symm.trans hend.symm⟩

/-! ### The scheduling expiry (R139) -/

section
variable {e : Env} {p : Play}

theorem eventAtCursor_eq_none (h : ∀ k, p.reader.cursor ≠ some (.event k)) : e.eventAtCursor p = none := by
  rw [Env.eventAtCursor]
  split
  · exact absurd ‹_› (h _)
  · rfl

theorem eventAtCursor_eq_some {k : Nat} {ev : ScoreEvent} (hc : p.reader.cursor = some (.event k))
    (hev : (e.events p)[k]? = some ev) : e.eventAtCursor p = some (k, ev) := by
  rw [Env.eventAtCursor, hc]
  simp only [hev, Option.map_some]

theorem schedulingFor_eq_none (h : (p.reader.flow ≠ .playing ∧ p.reader.flow ≠ .ending) ∨ p.reader.wait ≠ none ∨
    ∀ k, p.reader.cursor ≠ some (.event k)) : schedulingFor e p = none := by
  rw [schedulingFor]
  split
  · rename_i hopen
    obtain ⟨hplaying, hending⟩ | hwait | hcursor := h
    · exact absurd hopen.1 (not_or.mpr ⟨hplaying, hending⟩)
    · exact absurd hopen.2 hwait
    · rw [eventAtCursor_eq_none hcursor, Option.map_none]
  · rfl

theorem schedulingFor_eq_some {k : Nat} {ev : ScoreEvent} (hflow : p.reader.flow = .playing ∨ p.reader.flow = .ending)
    (hwait : p.reader.wait = none) (hc : p.reader.cursor = some (.event k)) (hev : (e.events p)[k]? = some ev) :
    schedulingFor e p = some (p.tracker.timeOf ev.position - BitVec.ofNat 32 e.maxLead -
      BitVec.ofNat 32 p.reader.horizon) := by
  rw [schedulingFor, if_pos ⟨hflow, hwait⟩, eventAtCursor_eq_some hc hev]
  rfl

theorem transport_le_maxLead {d : Nat} {v : Division} (hd : d < 4) (hv : e.presentDivision d = some v) :
    v.transport ≤ e.maxLead :=
  le_foldl_max (List.mem_filterMap.mpr ⟨d, List.mem_range.mpr hd, by rw [hv, Option.map_some]⟩)

theorem maxLead_eq_zero_or (e : Env) :
    e.maxLead = 0 ∨ ∃ d v, d < 4 ∧ e.presentDivision d = some v ∧ e.maxLead = v.transport := by
  refine (foldl_max_zero _).imp_right fun hmem => ?_
  obtain ⟨d, hd, hv⟩ := List.mem_filterMap.mp hmem
  obtain ⟨v, hv, hlead⟩ := Option.map_eq_some_iff.mp hv
  exact ⟨d, v, List.mem_range.mp hd, hv, hlead.symm⟩

end

/-! ### The sections' tables (R134) -/

theorem sectionGap_verse_one (item : Item) (plan : List Section) :
    sectionGap item plan (.verse 1) = if .giveOut ∈ plan then item.introGap else 0 := rfl

theorem sectionGap_verse {n : Nat} (h : 2 ≤ n) (item : Item) (plan : List Section) :
    sectionGap item plan (.verse n) = item.verseGap := if_neg (by omega)

theorem sectionRegistration_giveOut {item : Item} {r : Nat} (h : item.giveOutReg = some r) :
    sectionRegistration item .giveOut = r := by
  rw [sectionRegistration, h, Option.getD_some]

theorem sectionRegistration_verse {item : Item} {n r : Nat} (h : item.verseRegs[n - 1]? = some r) :
    sectionRegistration item (.verse n) = r := by
  rw [sectionRegistration, List.getD_eq_getElem?_getD, h, Option.getD_some]

theorem sectionRegistration_amen {item : Item} {r : Nat} (h : item.verseRegs.getLast? = some r) :
    sectionRegistration item .amen = r := by
  rw [sectionRegistration, List.getLastD_eq_getLast?, h, Option.getD_some]

section
variable {item : Item} {tune : Tune}

theorem sectionFirst_amen {a : Nat} (h : tune.derived.amenStart = some a) : sectionFirst item tune .amen = a := by
  rw [sectionFirst, h, Option.getD_some]

theorem sectionStop_amen {a : Nat} (h : tune.derived.amenEnd = some a) : sectionStop item tune .amen = a := by
  rw [sectionStop, h, Option.getD_some]

theorem sectionFirst_giveOut {ev : ScoreEvent} (h : (sectionEvents item tune .giveOut).head? = some ev) :
    sectionFirst item tune .giveOut = ev.position := by
  rw [sectionFirst, h, Option.map_some, Option.getD_some]

end

/-! ### The section start (R113, R138) -/

section
variable {e : Env} {p : Play}

/-- R113: the tracker at a section start; a hold in progress ends with latch HOLD END. -/
theorem trackerSectionStart_eq (tag first : Nat) (given : Option Bounds) : trackerSectionStart e tag first given p =
    { p with
      latches := p.latches ||| (if p.tracker.state = .holding then 4096#19 else 0#19)
      tracker := { p.tracker with
        bounds := given.or p.tracker.bounds, period := (given.map (·.starting)).getD p.tracker.period
        refTime := some e.clock, refPos := first, tag := some tag, inPlay := true, matched := false
        lastAnchor := none, misses := 0, fermata := none, fermataAt := none, hold := none, state := .leading } } := by
  by_cases hs : p.tracker.state = .holding <;> cases given <;> simp [trackerSectionStart, hs] <;> rfl

theorem startSection_eq {item : Item} {tune : Tune} {sec : Section} {evs : List ScoreEvent} {tr : Tracker}
    {q : Play} (hitem : e.playingItem p = some item) (htune : e.playingTune p = some tune) (hsec : p.reader.section = some sec)
    (hevs : evs = sectionEvents item tune sec)
    (htr : tr = { p.tracker with
      bounds := p.reader.givenBounds.or p.tracker.bounds
      period := (p.reader.givenBounds.map (·.starting)).getD p.tracker.period
      refTime := some e.clock, refPos := sectionFirst item tune sec, tag := some ((p.reader.tag + 1) % 65536)
      inPlay := true, matched := false, lastAnchor := none, misses := 0, fermata := none, fermataAt := none
      hold := none, state := .leading })
    (hq : q = { p with
      latches := p.latches ||| (if p.tracker.state = .holding then 4096#19 else 0#19) ||| 128#19
      reader := p.reader.atSectionStart evs
      matcher := matcherSectionStart sec ((p.reader.tag + 1) % 65536) evs p.matcher }) : startSection e p =
    { followed e tr q with
      atOnce := p.atOnce ++ [.sectionTest] ++ dueOfRetiming e (followed e tr q) ++ comeDue e (followed e tr q) } := by
  have hupdate : startSection e p = trackerUpdate e { q with tracker := tr, atOnce := p.atOnce ++ [.sectionTest] } := by
    rw [startSection, hitem, htune, hsec, hq, hevs, htr]
    simp only [trackerSectionStart_eq]
    rfl
  rw [hupdate]
  exact trackerUpdate_eq e tr { q with atOnce := p.atOnce ++ [.sectionTest] }

/-- At the first section of an item that has its tempo, the tracker takes the item's bounds and starting period. -/
theorem givenBounds_spec {tr : Tracker}
    (hgiven : p.reader.inHand = some 0 → ∀ b, p.reader.tempo = some b → tr.bounds = some b ∧ tr.period = b.starting)
    (hkept : (p.reader.inHand ≠ some 0 ∨ p.reader.tempo = none) →
      tr.bounds = p.tracker.bounds ∧ tr.period = p.tracker.period) :
    tr.bounds = p.reader.givenBounds.or p.tracker.bounds ∧
      tr.period = (p.reader.givenBounds.map (·.starting)).getD p.tracker.period := by
  rw [Reader.givenBounds]
  split
  · rename_i hfirst
    cases htempo : p.reader.tempo with
    | none => exact hkept (.inr htempo)
    | some b => exact hgiven hfirst b htempo
  · exact hkept (.inl ‹_›)

end

theorem exec_readerPut {s : State} (hs : Ready s) (horizon : Nat) : exec (.readerPut horizon) s = .next {
    afterwards s (putHorizon (clamp 100 1000 horizon) s.toEnv s.play) with
    link := replyLink s 0x2B (putNum 2 (clamp 100 1000 horizon)) } :=
  congrArg _ (State.request_ready hs rfl _)

/-- Settles O51: the tables section by section, the section start as a tracker update, the scheduling expiry by what it
needs, and READER PUT. -/
theorem sectionStartAndHorizon : Obligations.SectionStartAndHorizon := by
  refine ⟨fun item tune verse out hverse hout => ⟨fun n => ⟨hverse.symm, rfl, rfl⟩, rfl, fun a => sectionFirst_amen,
      fun a => sectionStop_amen, ?_⟩,
    fun item plan => ⟨fun r => sectionRegistration_giveOut, fun n r _ => sectionRegistration_verse,
      fun r => sectionRegistration_amen, rfl, rfl, fun h => (sectionGap_verse_one item plan).trans (if_pos h),
      fun h => (sectionGap_verse_one item plan).trans (if_neg h), fun n h => sectionGap_verse h item plan⟩,
    fun s hs => ⟨exec_act_not_due rfl hs,
      fun item tune sec evs tag tr q hd hitem htune hsec hevs htag hgiven hkept htr hq => ?_⟩,
    fun e p => ⟨schedulingFor_eq_none, fun k ev => schedulingFor_eq_some, fun d v => transport_le_maxLead,
      maxLead_eq_zero_or e⟩,
    fun horizon H w s hs hH hw => ?_⟩
  · have hgiveOut : out = giveOutEvents item.giveOut tune := hout
    have hverse : verse = tune.verse := hverse
    have hstop : sectionStop item tune .giveOut = endOf out := by rw [hout]; rfl
    rw [hstop]
    refine ⟨fun h => ?_, fun h => ?_, fun h => ?_, fun h => ?_, fun ev hev => sectionFirst_giveOut (hout ▸ hev),
      fun ev hev note hnote => le_endOf hev hnote, endOf_eq_zero_or out⟩
    · rw [hgiveOut, h]
      rfl
    · rw [hgiveOut, h, hverse]
      rfl
    · rw [hgiveOut, h, hverse]
      exact throughLineEnd_spec tune.verse
    · rw [hgiveOut, h, hverse]
      exact lastLine_spec tune.verse
  · obtain ⟨hbounds, hperiod⟩ := givenBounds_spec hgiven hkept
    rw [hbounds, hperiod, htag] at htr
    have hcursor : (if evs = [] then EventCursor.pastEnd else .event 0) =
        if evs.isEmpty then .pastEnd else .event 0 := by cases evs <;> rfl
    rw [htag, hcursor] at hq
    rw [exec_act_due rfl hs hd, startSection_eq hitem htune hsec hevs htr hq]
  · have hclamp : clamp 100 1000 horizon = H := hH.symm
    rw [exec_readerPut hs, hclamp, putHorizon, deriveScheduling_eq, ← hw]

end Sys2Proof.Machine
end

section
/-! PROOF (O53). The event that a HOLD press holds (R142), the debounce of a cue input (R147), and what each button's
press does (R148 to R150). -/

namespace Sys2Proof.Machine

/-! ### The event held (R142) -/

/-- Searching down from a number finds the greatest number below it that passes. -/
theorem find?_range_reverse {P : Nat → Bool} {n k : Nat} : (List.range n).reverse.find? P = some k ↔
    k < n ∧ P k = true ∧ ∀ j, k < j → j < n → P j = false := by
  induction n with
  | zero => simp
  | succ n ih =>
    rw [List.range_succ, List.reverse_concat, List.find?_cons]
    cases hn : P n with
    | true =>
      rw [Option.some.injEq]
      refine ⟨?_, fun ⟨hk, _, hlater⟩ => ?_⟩
      · rintro rfl
        exact ⟨Nat.lt_succ_self n, hn, fun j hj hlt => by omega⟩
      · by_contra hne
        simp [hlater n (by omega) (Nat.lt_succ_self n)] at hn
    | false =>
      rw [ih]
      refine ⟨fun ⟨hk, hp, hlater⟩ => ⟨by omega, hp, fun j hj hlt => ?_⟩, fun ⟨hk, hp, hlater⟩ =>
        ⟨?_, hp, fun j hj hlt => hlater j hj (by omega)⟩⟩
      · obtain rfl | hne := eq_or_ne j n
        · exact hn
        · exact hlater j hj (by omega)
      · obtain rfl | hne := eq_or_ne k n
        · simp [hp] at hn
        · omega

/-- R142: the event held is the last of those that the cursor has passed whose T has come. -/
theorem heldEvent_eq_some_iff {e : Env} {p : Play} {f : Fermata} : e.heldEvent p = some f ↔
    ∃ (k : Nat) (ev : ScoreEvent), k < e.scheduledEvents p ∧ (e.events p)[k]? = some ev ∧
      hasCome e.clock (p.tracker.timeOf ev.position) = true ∧
      (∀ j later, k < j → j < e.scheduledEvents p → (e.events p)[j]? = some later →
        hasCome e.clock (p.tracker.timeOf later.position) = false) ∧
      f = { position := ev.position, span := ev.span, resume := resumeAfter (e.events p) (e.sectionEnd p) k } := by
  simp only [Env.heldEvent, Option.bind_eq_some_iff, find?_range_reverse, Option.map_eq_some_iff]
  constructor
  · rintro ⟨k, ⟨hk, hcome, hlater⟩, ev, hev, rfl⟩
    rw [hev] at hcome
    exact ⟨k, ev, hk, hev, hcome, fun j later hj hlt hl => by simpa [hl] using hlater j hj hlt, rfl⟩
  · rintro ⟨k, ev, hk, hev, hcome, hlater, rfl⟩
    refine ⟨k, ⟨hk, by simpa [hev] using hcome, fun j hj hlt => ?_⟩, ev, hev, rfl⟩
    cases hl : (e.events p)[j]? with
    | none => rfl
    | some later => exact hlater j later hj hlt hl

/-! ### A cue input (R147) -/

/-- A cue input whose press is counted. -/
def CueInput.pressed : CueInput := { state := .closed, timer := none }

section
variable {c : CueInput} {now u : Tick}

theorem CueInput.readClosed_eq (c : CueInput) (now : Tick) : c.readClosed now =
    if c.state = .opened then { state := .closing, timer := some now }
    else if c.state = .opening then { state := .closed, timer := none } else c := by
  cases hs : c.state <;> simp [CueInput.readClosed, hs]

theorem CueInput.readOpen_eq (c : CueInput) (now : Tick) : c.readOpen now =
    if c.state = .closing then { state := .opened, timer := none }
    else if c.state = .closed then { state := .opening, timer := some now } else c := by
  cases hs : c.state <;> simp [CueInput.readOpen, hs]

theorem CueInput.due_eq_false (h : c.state = .opened ∨ c.state = .closed ∨
    ∀ u, c.timer = some u → hasCome now (u + 20#32) = false) : c.due now = false := by
  obtain hs | hs | htimer := h
  · simp [CueInput.due, hs]
  · simp [CueInput.due, hs]
  · have hage : dueAfter now 20 c.timer = false := by
      cases hu : c.timer with
      | none => rfl
      | some u => exact htimer u hu
    rw [CueInput.due, hage, Bool.and_false]

theorem CueInput.due_eq_true (hs : c.state = .closing ∨ c.state = .opening) (hu : c.timer = some u)
    (hcome : hasCome now (u + 20#32) = true) : c.due now = true := by
  have hage : dueAfter now 20 c.timer = true := by rw [hu]; exact hcome
  obtain hs | hs := hs <;> simp [CueInput.due, hs, hage]

end

section
variable {e : Env} {p : Play} {b : Button} {u : Tick}

theorem debounce_not_due (h : (p.reader.cue b).due e.clock = false) : debounce b e p = p :=
  if_neg (by simp [h])

/-- An opening that has lasted arms the input. -/
theorem debounce_opening (hs : (p.reader.cue b).state = .opening) (hu : (p.reader.cue b).timer = some u)
    (hcome : hasCome e.clock (u + 20#32) = true) :
    debounce b e p = setCue b { state := .opened, timer := none } p := by
  rw [debounce]
  simp only [CueInput.due_eq_true (.inr hs) hu hcome, hs, if_true]
  rfl

/-- A closing that has lasted is a counted press. -/
theorem debounce_closing (hs : (p.reader.cue b).state = .closing) (hu : (p.reader.cue b).timer = some u)
    (hcome : hasCome e.clock (u + 20#32) = true) :
    debounce b e p = press e b (setCue b .pressed p) := by
  rw [debounce]
  simp only [CueInput.due_eq_true (.inl hs) hu hcome, hs, if_true]
  rfl

end

/-! ### A cue hold (R122, R142) -/

theorem waitForHold_ne_none {position : Nat} {wait : Option Nat} : waitForHold position wait ≠ none := by
  cases wait with
  | none => simp [waitForHold]
  | some w => rw [waitForHold]; split <;> simp

/-- The tracker holds an event at a HOLD press, and the reader waits behind it. -/
def enterCueHold (e : Env) (f : Fermata) (p : Play) : Play :=
  enterHold e .cue f { p with reader := { p.reader with wait := waitForHold f.position p.reader.wait } }

/-- A reader that waits behind the event held schedules nothing. -/
theorem enterCueHold_eq {e : Env} {f : Fermata} {p q : Play} {tr : Tracker}
    (htr : tr = p.tracker.enterHolding (holdRecordFor e p.tracker .cue f) e.clock)
    (hq : q = { p with
      latches := p.latches ||| 2048#19
      tracker := tr
      matcher := { p.matcher with candidates := p.matcher.candidates.map (fun _ => none), windowClose := none }
      slots := slotsAtHoldStart e tr f.position p.slots
      reader := { p.reader with schedAt := none, wait := waitForHold f.position p.reader.wait } }) :
    enterCueHold e f p = { q with atOnce := p.atOnce ++ (onTimesDue e q).map Due.onTime } := by
  rw [enterCueHold, enterHold_eq htr (q := { q with reader := { q.reader with schedAt := p.reader.schedAt } })
    (p := { p with reader := { p.reader with wait := waitForHold f.position p.reader.wait } }) (by rw [hq]),
    schedulingFor_eq_none (.inr (.inl (by rw [hq]; exact waitForHold_ne_none))), hq]
  simp only [dueAt, Bool.false_eq_true, if_false, List.append_nil]
  rfl

/-! ### Presses (R147 to R150) -/

theorem Reader.inSection_iff {rd : Reader} : rd.inSection = true ↔ rd.flow = .playing ∨ rd.flow = .ending := by
  simp [Reader.inSection]

theorem recordPress_eq (b : Button) (now : Tick) (taken : Bool) (p : Play) : recordPress b now taken p = { p with
    reader := { p.reader with lastCue := some { button := b, tick := now, taken := taken } }
    latches := p.latches ||| 262144#19
    counters := if taken then p.counters else p.counters.modify 8 (fun n => min (n + 1) 65535) } := by
  cases taken <;> rfl

section
variable {e : Env} {p : Play}

/-- An ignored press is recorded and does nothing else. -/
theorem press_ignored {b : Button} (h : pressTaken e b p = false) : press e b p = recordPress b e.clock false p := by
  rw [press.eq_def, h]
  cases b with
  | go =>
    have htaken : goTaken (recordPress .go e.clock false p) = false := h
    have hflow : (recordPress .go e.clock false p).reader.flow ≠ .waiting := fun hwaiting => by
      simp [goTaken, hwaiting] at htaken
    simp only [pressGo, if_neg hflow, htaken]
    rfl
  | hold =>
    have htaken : holdTaken e (recordPress .hold e.clock false p) = false := h
    simp only [pressHold, htaken]
    rfl
  | stop =>
    have hidle : (recordPress .stop e.clock false p).reader.flow = .idle := not_not.mp (of_decide_eq_false h)
    simp only [pressStop, if_pos hidle]

/-- R148: GO while WAITING prepares the first section. -/
theorem press_go_waiting (h : p.reader.flow = .waiting) :
    press e .go p = prepare e 0 (recordPress .go e.clock true p) := by
  have htaken : pressTaken e .go p = true := by simp [pressTaken, goTaken, h]
  have hflow : (recordPress .go e.clock true p).reader.flow = .waiting := h
  rw [press, htaken]
  simp only [pressGo, if_pos hflow]

/-- R148: GO ends a hold. -/
theorem press_go_holding (hflow : p.reader.flow = .playing ∨ p.reader.flow = .ending)
    (hs : p.tracker.state = .holding) : press e .go p = endHold e (recordPress .go e.clock true p) := by
  have htaken : pressTaken e .go p = true := by simp [pressTaken, goTaken, hs, Reader.inSection_iff.mpr hflow]
  have hnot : (recordPress .go e.clock true p).reader.flow ≠ .waiting := fun h =>
    have h : p.reader.flow = .waiting := h
    by simp [h] at hflow
  have htaken' : goTaken (recordPress .go e.clock true p) = true := htaken
  rw [press, htaken]
  simp only [pressGo, if_neg hnot, htaken', if_true]

/-- R149: HOLD while HOLDING extends the hold. -/
theorem press_hold_holding (hflow : p.reader.flow = .playing ∨ p.reader.flow = .ending)
    (hs : p.tracker.state = .holding) : press e .hold p = extendHold e (recordPress .hold e.clock true p) := by
  have htaken : pressTaken e .hold p = true := by simp [pressTaken, holdTaken, hs, Reader.inSection_iff.mpr hflow]
  have htaken' : holdTaken e (recordPress .hold e.clock true p) = true := htaken
  have hs' : (recordPress .hold e.clock true p).tracker.state = .holding := hs
  rw [press, htaken]
  simp only [pressHold, htaken', if_true, if_pos hs']

/-- R149: HOLD in a section holds the event heard. -/
theorem press_hold_cue {f : Fermata} (hflow : p.reader.flow = .playing ∨ p.reader.flow = .ending)
    (ht : p.tracker.tracking = true) (hplay : p.tracker.inPlay = true) (hf : e.heldEvent p = some f) :
    press e .hold p = enterCueHold e f (recordPress .hold e.clock true p) := by
  have htaken : pressTaken e .hold p = true := by
    simp [pressTaken, holdTaken, ht, hplay, hf, Reader.inSection_iff.mpr hflow]
  have htaken' : holdTaken e (recordPress .hold e.clock true p) = true := htaken
  have hf' : e.heldEvent (recordPress .hold e.clock true p) = some f := hf
  have hs' : (recordPress .hold e.clock true p).tracker.state ≠ .holding := fun h =>
    have h : p.tracker.state = .holding := h
    by simp [Tracker.tracking_of_holding h] at ht
  rw [press, htaken]
  simp only [pressHold, htaken', if_true, if_neg hs', hf']
  rfl

/-- R175: the planner's records alone are kept. -/
theorem retireScore_slots : (retireScore p).slots =
    p.slots.map (fun o => o.filter (fun r => decide (r.origin = .planner))) := by
  refine List.map_congr_left fun o _ => ?_
  cases o with
  | none => rfl
  | some r => simp [Option.filter]

/-- R150: STOP ends the item. -/
theorem press_stop (h : p.reader.flow ≠ .idle) :
    press e .stop p = itemEnd .stopped (recordPress .stop e.clock true p) := by
  have htaken : pressTaken e .stop p = true := decide_eq_true h
  have hflow : (recordPress .stop e.clock true p).reader.flow ≠ .idle := h
  rw [press, htaken]
  simp only [pressStop, if_neg hflow]

/-- R148 to R150: when a press is ignored. -/
theorem pressTaken_eq_false {b : Button} (h :
    (b = .go ∧ p.reader.flow ≠ .waiting ∧
      ((p.reader.flow ≠ .playing ∧ p.reader.flow ≠ .ending) ∨ p.tracker.state ≠ .holding)) ∨
    (b = .hold ∧ ((p.reader.flow ≠ .playing ∧ p.reader.flow ≠ .ending) ∨
      (p.tracker.state ≠ .holding ∧ (p.tracker.tracking = false ∨ p.tracker.inPlay = false ∨ e.heldEvent p = none)))) ∨
    (b = .stop ∧ p.reader.flow = .idle)) : pressTaken e b p = false := by
  have hout (hflow : p.reader.flow ≠ .playing ∧ p.reader.flow ≠ .ending) : p.reader.inSection = false := by
    rw [← Bool.not_eq_true, Reader.inSection_iff]
    exact not_or.mpr hflow
  obtain ⟨rfl, hwaiting, hflow | hs⟩ | ⟨rfl, hflow | ⟨hs, ht | hplay | hf⟩⟩ | ⟨rfl, hidle⟩ := h
  · simp [pressTaken, goTaken, hwaiting, hout hflow]
  · simp [pressTaken, goTaken, hwaiting, hs]
  · simp [pressTaken, holdTaken, hout hflow]
  · simp [pressTaken, holdTaken, hs, ht]
  · simp [pressTaken, holdTaken, hs, hplay]
  · simp [pressTaken, holdTaken, hs, hf]
  · simp [pressTaken, hidle]

/-! ### What a taken press brings about -/

/-- R136: the first section is prepared. -/
theorem prepare_first {item : Item} {sec : Section} {rest : List Section} (hitem : e.playingItem p = some item)
    (hplan : p.reader.plan = some (sec :: rest)) : prepare e 0 p = requestApply e (sectionRegistration item sec) .reader
      { p with reader := { p.reader with flow := .preparing, inHand := some 0 } } := by
  have hitem' : e.playingItem { p with reader := { p.reader with flow := .preparing, inHand := some 0 } } = some item :=
    hitem
  have hsec : Reader.section { p.reader with flow := .preparing, inHand := some 0 } = some sec := by
    simp [Reader.section, hplan]
  simp only [prepare, hitem', hsec]

/-- R124: a hold is extended by its span, to 2^19 ticks from its entry at most. -/
theorem extendHold_eq {h : Hold} {tr : Tracker} (hh : p.tracker.hold = some h)
    (htr : tr = { p.tracker with hold := some { h with
      cueHeld := true
      maxEnd := earlier (h.maxEnd + BitVec.ofNat 32 ((h.span * p.tracker.period + 30720) / 61440))
        (h.entryTime + 524288#32) } }) : extendHold e p = { followed e tr p with
    atOnce := p.atOnce ++ dueOfRetiming e (followed e tr p) ++ comeDue e (followed e tr p) } := by
  have hextended : extendHold e p = trackerUpdate e { p with tracker := tr } := by
    rw [extendHold, hh, htr]
    rfl
  rw [hextended, trackerUpdate_eq]

end

/-! ### The commands -/

section
variable {s : State} {b : Button}

theorem exec_cueContactClosed (hs : Awake s) : exec (.cueContactClosed b) s =
    .next { s with play := setCue b ((s.play.reader.cue b).readClosed s.clock) s.play } :=
  congrArg _ (State.event_awake hs _)

theorem exec_cueContactOpened (hs : Awake s) : exec (.cueContactOpened b) s =
    .next { s with play := setCue b ((s.play.reader.cue b).readOpen s.clock) s.play } :=
  congrArg _ (State.event_awake hs _)

theorem exec_cueDebounceExpiry_press {u : Tick} (hs : Awake s) (hclosing : (s.play.reader.cue b).state = .closing)
    (hu : (s.play.reader.cue b).timer = some u) (hcome : hasCome s.clock (u + 20#32) = true) :
    exec (.cueDebounceExpiry b) s =
      .next (afterwards s (press s.toEnv b (setCue b .pressed s.play))) := by
  rw [exec_act rfl hs, debounce_closing hclosing hu hcome]

end

/-- Settles O53: the event held, the readings and the debounce of a cue input, and a counted press by its button and
by whether it is taken. -/
theorem cueInputsAndPresses : Obligations.CueInputsAndPresses := by
  refine ⟨fun e p f => ?_, fun b c s hs hc => ⟨?_, ?_, fun hsettled => ⟨fun h => ?_, fun u hopening hu hcome => ?_⟩⟩,
    fun b c u q s hs hc hclosing hu hcome hq => ?_⟩
  · rw [heldEvent_eq_some_iff]
    constructor
    · rintro ⟨k, ev, hk, hev, hcome, hlater, rfl⟩
      exact ⟨e.scheduledEvents p, k, ev, rfl, hk, hev, hcome, hlater, rfl, rfl, rfl⟩
    · rintro ⟨n, k, ev, hn, hk, hev, hcome, hlater, hposition, hspan, hresume⟩
      have hn : n = e.scheduledEvents p := hn
      subst hn
      refine ⟨k, ev, hk, hev, hcome, hlater, ?_⟩
      cases f
      exact (Fermata.mk.injEq ..).mpr ⟨hposition, hspan, hresume⟩
  · rw [exec_cueContactClosed hs, CueInput.readClosed_eq, hc]
  · rw [exec_cueContactOpened hs, CueInput.readOpen_eq, hc]
  · exact exec_act_same rfl hs (debounce_not_due (CueInput.due_eq_false (hc ▸ h))) hsettled
  · have hopened := debounce_opening (e := s.toEnv) (hc ▸ hopening) (hc ▸ hu) hcome
    rw [exec_act_settled rfl hs (hopened ▸ hsettled), hopened]
  · have hrecorded : ∀ taken, q taken =
        recordPress b s.clock taken (setCue b .pressed s.play) := fun taken => by
      rw [hq, recordPress_eq]
      rfl
    have hatOnce : ∀ taken, (q taken).atOnce = s.play.atOnce := fun taken => by rw [hq]
    rw [exec_cueDebounceExpiry_press hs (hc ▸ hclosing) (hc ▸ hu) hcome]
    refine ⟨fun hsettled h => ?_, fun item sec rest hgo hwaiting hitem hplan => ?_,
      fun hflow => ⟨fun hgo hholding => ?_, fun h tr hhold hholding hh htr => ?_,
        fun f tr p hhold ht hplay hf htr hp => ?_⟩, fun hsettled hstop hflow => ?_⟩
    · have hignored : pressTaken s.toEnv b (setCue b .pressed s.play) = false :=
        pressTaken_eq_false (by cases b <;> exact h)
      rw [press_ignored hignored, ← hrecorded, afterwards_settled ((hatOnce false).trans hsettled)]
    · subst hgo
      rw [press_go_waiting (p := setCue .go .pressed s.play) hwaiting, ← hrecorded,
        prepare_first (item := item) (sec := sec) (rest := rest)]
      · rw [hq]; exact hitem
      · rw [hq]; exact hplan
    · subst hgo
      rw [press_go_holding (p := setCue .go .pressed s.play) hflow hholding, ← hrecorded]
    · subst hhold
      have htracker : (q true).tracker = s.play.tracker := by rw [hq]
      rw [press_hold_holding (p := setCue .hold .pressed s.play) hflow hholding, ← hrecorded,
        extendHold_eq (htracker ▸ hh) (htr.trans (by rw [htracker])), hatOnce]
    · subst hhold
      have hentered : enterCueHold s.toEnv f (q true) =
          { p with atOnce := (q true).atOnce ++ (onTimesDue s.toEnv p).map Due.onTime } :=
        enterCueHold_eq rfl (by rw [hp, htr, hq]; rfl)
      rw [press_hold_cue (p := setCue .hold .pressed s.play) hflow ht hplay hf, ← hrecorded, hentered, hatOnce]
    · subst hstop
      have hslots : (retireForEnd .stopped (q true)).slots =
          s.play.slots.map (fun o => o.filter (fun r => decide (r.origin = .planner))) := by
        rw [retireForEnd, retireScore_slots, hq]
      have hended : ∀ slots, (playEnded .stopped slots (q true)).atOnce = [] := fun _ => (hatOnce true).trans hsettled
      rw [press_stop (p := setCue .stop .pressed s.play) hflow, ← hrecorded, itemEnd_eq, hslots,
        afterwards_settled (hended _)]

end Sys2Proof.Machine
end

section
/-! PROOF (O52). Folding into the compass and routing (R140), what a note handed to the Keying Table leaves alone, and
the scheduling of an event (R139 to R141). -/

namespace Sys2Proof.Machine

/-! ### Folding and routing (R140) -/

/-- R140.2: the fold moves a key by octaves, to the first key of the compass that it meets. -/
theorem foldKey_spec {v : Division} (hkeys : 12 ≤ v.keys) (k : Int) :
    (v.lowest : Int) ≤ v.foldKey k ∧ v.foldKey k ≤ (v.lowest : Int) + v.keys - 1 ∧ (12 : Int) ∣ v.foldKey k - k ∧
    (k < v.lowest → v.foldKey k < (v.lowest : Int) + 12) ∧
    ((v.lowest : Int) + v.keys - 1 < k → (v.lowest : Int) + v.keys - 13 < v.foldKey k) ∧
    ((v.lowest : Int) ≤ k → k ≤ (v.lowest : Int) + v.keys - 1 → v.foldKey k = k) := by
  have hhighest : (v.highest : Int) = (v.lowest : Int) + v.keys - 1 := by
    rw [Division.highest]
    omega
  rw [Division.foldKey, hhighest]
  split
  · omega
  · split <;> omega

section
variable {e : Env} {tune : Tune} {origin : Origin} {tag position : Nat} {note : Note} {p : Play} {route : Route}

theorem handOnRoute_absent (h : e.presentDivision route.division = none) :
    handOnRoute e tune origin tag position note p route = p.count .skipped := by
  simp only [handOnRoute, h]

theorem handOnRoute_present {v : Division} {k : Int} (h : e.presentDivision route.division = some v)
    (hk : k = v.foldKey ((note.pitch : Int) + route.shift)) :
    handOnRoute e tune origin tag position note p route = takeNote e
      { division := route.division, key := k.toNat, voice := note.voice
        priority := tune.header.priorities.getD note.voice 0, start := position
        stop := position + note.duration, tie := note.tie, origin := origin, tag := tag }
      (if k = (note.pitch : Int) + route.shift then p else p.count .folded) := by
  subst hk
  simp only [handOnRoute, h, Play.countIf, decide_eq_true_eq, ite_not]

end

/-! ### What handing a note leaves alone (R156 to R165) -/

/-- Two plays that differ alone in what the Keying Table writes: its records, the counters and latches of R176, and
what is to be taken at once. -/
def KeyingAlone (p q : Play) : Prop :=
  q = { p with latches := q.latches, counters := q.counters, slots := q.slots, atOnce := q.atOnce }

@[refl] theorem KeyingAlone.refl (p : Play) : KeyingAlone p p := rfl

@[trans] theorem KeyingAlone.trans {p q r : Play} (h : KeyingAlone p q) (h' : KeyingAlone q r) : KeyingAlone p r := by
  rw [KeyingAlone, h', h]

theorem KeysAlone.keyingAlone {p q : Play} (h : KeysAlone p q) : KeyingAlone p q := by
  rw [KeyingAlone, h]

section
variable (e : Env) (i : Nat) (n : NoteIn) (p : Play)

theorem rederive_keyingAlone : KeyingAlone p (rederive e i p) := (rederive_keeps e i i p).1.keyingAlone

theorem unlink_keyingAlone : KeyingAlone p (unlink e i p) := (unlink_keeps e i i p).1.keyingAlone

theorem retire_keyingAlone : KeyingAlone p (retire e i p) := (retire_keeps e i i p).1.keyingAlone

theorem keyRecord_keyingAlone : KeyingAlone p (keyRecord e i p) := by
  unfold keyRecord
  split
  · rfl
  · split
    · have hkeyed (r : KeyRecord) : KeyingAlone p (rederive e i (unlink e i (p.setRec i (some r)))) :=
        .trans (q := p.setRec i (some r)) rfl ((unlink_keyingAlone e i _).trans (rederive_keyingAlone e i _))
      simp only
      split
      · exact hkeyed _
      · exact ((hkeyed _).trans (retire_keyingAlone e _ _)).trans rfl
    · rfl

theorem joinRecord_keyingAlone (r : KeyRecord) (sp : Span) (stop : Nat) :
    KeyingAlone p (joinRecord e i r sp n stop p) :=
  .trans (q := p.setRec i _) rfl (rederive_keyingAlone e i _)

theorem placeRecord_keyingAlone : KeyingAlone p (placeRecord e n i p) := by
  have hkeyed {q : Play} (h : KeyingAlone p q) (come : Bool) :
      KeyingAlone p (if come then keyRecord e i q else q) := by
    cases come with
    | false => exact h
    | true => exact h.trans (keyRecord_keyingAlone e i q)
  unfold placeRecord
  refine hkeyed ?_ _
  split
  · rfl
  · exact .trans (q := Play.setRec (p.setRec i _) _ _) rfl (rederive_keyingAlone e _ _)

theorem newRecord_keyingAlone : KeyingAlone p (newRecord e n p) := by
  unfold newRecord
  split
  · exact placeRecord_keyingAlone e _ n p
  · split
    · rfl
    · rename_i i _
      have hstolen : KeyingAlone p (((retire e i p).count .stolen).latch .noteStolen) :=
        (retire_keyingAlone e i p).trans rfl
      exact hstolen.trans (placeRecord_keyingAlone e i n _)

/-- A note that is handed writes what the Keying Table writes, whether it joins a record, cuts one or makes one. -/
theorem takeNote_keyingAlone : KeyingAlone p (takeNote e n p) := by
  have hmerged (i : Nat) (r : KeyRecord) (sp : Span) (stop : Nat) :
      KeyingAlone p ((joinRecord e i r sp n stop p).count .merged) := (joinRecord_keyingAlone e i n p r sp stop).trans rfl
  unfold takeNote
  split
  · exact newRecord_keyingAlone e n p
  · split
    · exact joinRecord_keyingAlone e _ n p _ _ _
    · split
      · exact joinRecord_keyingAlone e _ n p _ _ _
      · split
        · exact hmerged _ _ _ _
        · simp only
          split
          · split
            · exact hmerged _ _ _ _
            · exact .trans (q := p.count .merged) rfl (newRecord_keyingAlone e n _)
          · exact newRecord_keyingAlone e n p

theorem handOnRoute_keyingAlone (tune : Tune) (origin : Origin) (tag position : Nat) (note : Note) (route : Route) :
    KeyingAlone p (handOnRoute e tune origin tag position note p route) := by
  cases h : e.presentDivision route.division with
  | none =>
    rw [handOnRoute_absent h]
    rfl
  | some v =>
    rw [handOnRoute_present h rfl]
    refine .trans ?_ (takeNote_keyingAlone e _ _)
    split <;> rfl

theorem foldl_keyingAlone {α : Type} {f : Play → α → Play} (h : ∀ q a, KeyingAlone q (f q a)) (l : List α) :
    KeyingAlone p (l.foldl f p) := by
  induction l generalizing p with
  | nil => rfl
  | cons a l ih => exact (h p a).trans (ih (f p a))

theorem handNote_keyingAlone (reg : Registration) (tune : Tune) (origin : Origin) (tag position : Nat) (note : Note) :
    KeyingAlone p (handNote e reg tune origin tag position p note) :=
  foldl_keyingAlone p (fun q route => handOnRoute_keyingAlone e q tune origin tag position note route) _

end

/-! ### The event scheduled (R140, R141) -/

theorem originOf_eq (sec : Section) : originOf sec = if sec = .giveOut then .giveOut else .score := by
  cases sec <;> rfl

/-- R140: the cursor moves on; past the final section's last event the reader is ENDING. -/
theorem Reader.advance_eq (rd : Reader) (k total : Nat) : rd.advance k total = { rd with
    cursor := some (if k + 1 < total then .event (k + 1) else .pastEnd)
    flow := if k + 1 < total ∨ rd.isFinal = false then rd.flow else .ending } := by
  by_cases hk : k + 1 < total
  · simp only [Reader.advance, hk, if_true, true_or]
  · simp only [Reader.advance, hk, if_false, false_or]
    cases rd.isFinal <;> rfl

section
variable {e : Env} {p : Play}

/-- R141: the tracker's pending fermata, at which the reader waits; it is taken at once when it is heard already. -/
theorem setFermata_eq (f : Fermata) : setFermata e f p = { p with
    tracker := { p.tracker with fermata := some f, fermataAt := some (p.tracker.timeOf f.position) }
    reader := { p.reader with wait := some f.position }
    atOnce := p.atOnce ++ (if p.tracker.tracking = true ∧ hasCome e.clock (p.tracker.timeOf f.position) = true then
      [.fermata] else []) } := by
  simp only [setFermata, deriveFermata_eq, Bool.and_eq_true]
  rfl

theorem schedule_due {item : Item} {tune : Tune} {sec : Section} {k : Nat} {ev : ScoreEvent}
    (hd : schedulingDue e p = true) (hitem : e.playingItem p = some item) (htune : e.playingTune p = some tune)
    (hsec : p.reader.section = some sec) (hc : p.reader.cursor = some (.event k))
    (hev : (sectionEvents item tune sec)[k]? = some ev) : schedule e p = scheduleEvent e item tune sec k ev p := by
  have hevents : e.events p = sectionEvents item tune sec := by simp only [Env.events, hitem, htune, hsec]
  have hcursor : e.eventAtCursor p = some (k, ev) := eventAtCursor_eq_some hc (hevents ▸ hev)
  have hcome : dueAt e.clock p.reader.schedAt = true := hd
  rw [schedule, if_pos hcome, hitem, htune, hsec, hcursor]

/-- Once an event's notes are handed, the tracker and the reader take its fermata, and the reader goes on. -/
theorem scheduleEvent_eq {item : Item} {tune : Tune} {sec : Section} {evs : List ScoreEvent} {k : Nat}
    {ev : ScoreEvent} {q : Play} {rd : Reader} {tr : Tracker}
    (hevs : evs = sectionEvents item tune sec)
    (hq : q = ev.notes.foldl (handNote e (e.registration (sectionRegistration item sec)) tune (originOf sec)
      p.reader.tag ev.position) p)
    (hrd : rd = { q.reader with
      cursor := some (if k + 1 < evs.length then .event (k + 1) else .pastEnd)
      flow := if k + 1 < evs.length ∨ q.reader.isFinal = false then q.reader.flow else .ending
      wait := if ev.fermata = true then some ev.position else q.reader.wait })
    (hfermata : ev.fermata = true → tr = { q.tracker with
      fermata := some { position := ev.position, span := ev.span
                        resume := resumeAfter evs (sectionStop item tune sec) k }
      fermataAt := some (q.tracker.timeOf ev.position) })
    (hplain : ev.fermata = false → tr = q.tracker) :
    scheduleEvent e item tune sec k ev p = deriveScheduling e { q with
      tracker := tr, reader := rd
      atOnce := q.atOnce ++ (if ev.fermata = true ∧ tr.tracking = true ∧
        hasCome e.clock (tr.timeOf ev.position) = true then [.fermata] else []) ++ [.sectionTest] } := by
  rw [scheduleEvent, ← hq, ← hevs]
  cases hf : ev.fermata with
  | true =>
    rw [hrd, hfermata hf, hf]
    simp only [if_true, true_and, setFermata_eq, Reader.advance_eq]
    rfl
  | false =>
    rw [hrd, hplain hf, hf]
    simp only [Bool.false_eq_true, if_false, false_and, List.append_nil, Reader.advance_eq]
    rfl

end

/-- Settles O52: the fold and the routing, and the scheduling expiry, whose notes leave the reader, the tracker and
the other blocks as they were. -/
theorem schedulingHandsNotes : Obligations.SchedulingHandsNotes := by
  refine ⟨fun v k hkeys => foldKey_spec hkeys k,
    fun e tune origin tag position note p route => ⟨handOnRoute_absent, fun v k => handOnRoute_present⟩,
    fun s hs => ⟨fun h => exec_act_same rfl hs (schedule_not_due h), ?_⟩⟩
  intro item tune sec evs k ev reg p q rd tr fermata hd hitem htune hsec hevs hc hev hreg hp hrd hfermata hplain
    hdue hq
  have hnotes : p = ev.notes.foldl (handNote s.toEnv reg tune (originOf sec) s.play.reader.tag ev.position) s.play := by
    rw [hp, originOf_eq]
    rfl
  have halone : KeyingAlone s.play p := by
    rw [hnotes]
    exact foldl_keyingAlone _ (fun q note => handNote_keyingAlone s.toEnv q reg tune _ _ _ note) _
  have hreader : p.reader = s.play.reader := by rw [halone]
  have htracker : p.tracker = s.play.tracker := by rw [halone]
  refine ⟨hreader, htracker, by rw [halone], by rw [halone], by rw [halone], by rw [halone], by rw [halone], ?_⟩
  rw [exec_act rfl hs, schedule_due hd hitem htune hsec hc (hevs ▸ hev),
    scheduleEvent_eq hevs (hreg ▸ hnotes) (hreader ▸ hrd) (htracker ▸ hfermata) (htracker ▸ hplain), ← hdue,
    deriveScheduling_eq, hq]
  rfl

end Sys2Proof.Machine
end

section
/-! SUPPORT (O58, O59). When an apply is done (R185), what its completion leaves and the gap that then begins (R137), and
the pulse that a stop begins (R183). -/

namespace Sys2Proof.Machine

/-! ### Counting stops -/

theorem Play.stop_eq_some {p : Play} {d i : Nat} {r : StopRecord} :
    p.stop d i = some r ↔ ∃ l, p.stops[d]? = some l ∧ l[i]? = some r := Option.bind_eq_some_iff

/-- No stop is counted exactly when none passes the test. -/
theorem Play.countStops_eq_zero {p : Play} {f : Nat → Nat → StopRecord → Bool} :
    p.countStops f = 0 ↔ ∀ d i r, p.stop d i = some r → f d i r = false := by
  rw [Play.countStops, List.sum_eq_zero_iff]
  constructor
  · intro h d i r hr
    obtain ⟨l, hl, hr⟩ := Play.stop_eq_some.mp hr
    have hsum := h _ (mem_mapFrom.mpr ⟨d, l, hl, rfl⟩)
    have hzero := List.sum_eq_zero_iff.mp hsum _ (mem_mapFrom.mpr ⟨i, r, hr, rfl⟩)
    simpa only [Nat.zero_add, Bool.toNat_eq_zero] using hzero
  · intro h n hn
    obtain ⟨d, l, hl, rfl⟩ := mem_mapFrom.mp hn
    refine List.sum_eq_zero_iff.mpr fun x hx => ?_
    obtain ⟨i, r, hr, rfl⟩ := mem_mapFrom.mp hx
    simpa only [Nat.zero_add, Bool.toNat_eq_zero] using h d i r (Play.stop_eq_some.mpr ⟨l, hl, hr⟩)

/-! ### When an apply is done (R185) -/

theorem StopRecord.finished_iff {r : StopRecord} : r.finished = true ↔ r.action = .done ∨ r.action = .fault := by
  simp [StopRecord.finished]

theorem applyDone_iff {e : Env} {p : Play} : applyDone e p = true ↔
    (∀ d i r, p.stop d i = some r → (e.presentDivision d).isSome = true → r.desired.isSome = true →
      r.action = .done ∨ r.action = .fault) ∧
    p.countStops (fun d _ r => (e.presentDivision d).isSome && r.desired.isSome) = p.apply.taken := by
  have hunfinished (d : Nat) (r : StopRecord) : (e.takenUp d r && !r.finished) = false ↔
      ((e.presentDivision d).isSome = true → r.desired.isSome = true → r.action = .done ∨ r.action = .fault) := by
    rw [← StopRecord.finished_iff, Env.takenUp, Env.takesUp]
    cases (e.presentDivision d).isSome <;> cases r.desired.isSome <;> simp
  rw [applyDone, Bool.and_eq_true, decide_eq_true_eq, decide_eq_true_eq, Play.countStops_eq_zero]
  simp only [hunfinished]
  rfl

/-! ### The completion (R185) and the gap (R137) -/

/-- The play with its apply COMPLETE at this tick, and latch APPLY DONE. -/
def applyCompleted (e : Env) (p : Play) : Play :=
  { p with
    apply := { p.apply with state := .complete, endTick := some e.clock, readerWaiting := false }
    latches := p.latches ||| 32768#19 }

section
variable {e : Env} {p : Play}

theorem completeApply_waiting (h : p.apply.state ≠ .inFlight ∨ applyDone e p = false) : completeApply e p = p := by
  refine if_neg fun ⟨hstate, hdone⟩ => ?_
  obtain h | h := h
  · exact h hstate
  · simp [h] at hdone

/-- A reader that is PREPARING goes on to its gap. -/
theorem completeApply_done (hstate : p.apply.state = .inFlight) (hdone : applyDone e p = true) : completeApply e p =
    if p.reader.flow = .preparing then beginGap e (applyCompleted e p) else applyCompleted e p :=
  if_pos ⟨hstate, hdone⟩

theorem gapTicks_eq {item : Item} {plan : List Section} {sec : Section} (hitem : e.playingItem p = some item)
    (hplan : p.reader.plan = some plan) (hsec : p.reader.section = some sec) :
    gapTicks e p = (sectionGap item plan sec * p.tracker.period + 30720) / 61440 := by
  simp only [gapTicks, hitem, hplan, hsec]
  rfl

/-- R137: a gap of 0 ticks is no gap. -/
theorem beginGap_none (h : gapTicks e p = 0) : beginGap e p = startSection e p := if_pos h

theorem beginGap_some (h : 0 < gapTicks e p) : beginGap e p = { p with
    reader := { p.reader with flow := .gap, gapEnd := some (e.clock + BitVec.ofNat 32 (gapTicks e p)) } } :=
  if_neg (Nat.ne_of_gt h)

end

end Sys2Proof.Machine
end

section
/-! PROOF (O58). What an apply's request does to each stop (R182, R183, R186), the apply that it starts or retargets,
and STOPS APPLY. -/

namespace Sys2Proof.Machine

/-! ### Each stop's part (R182, R183, R186) -/

section
variable {e : Env} {want : Bool} {r : StopRecord}

theorem StopRecord.drawn_eq_some : r.drawn = some want ↔ r.cause = none ∧ r.sense = some want := by
  rw [StopRecord.drawn]
  cases r.cause <;> simp

theorem retargetStop_pulsing (h : r.action = .pulsing) :
    retargetStop e want r = { r with handSet := false, desired := some want } := by
  rw [retargetStop, h]

theorem retargetStop_settling (h : r.action = .settling) : retargetStop e want r =
    if r.desired = some want then { r with handSet := false } else beginPulse e want { r with handSet := false } := by
  rw [retargetStop, h]

theorem retargetStop_rest (hpulsing : r.action ≠ .pulsing) (hsettling : r.action ≠ .settling) :
    retargetStop e want r = takeUpStop e want r := by
  rw [retargetStop]
  split
  · exact absurd ‹_› hpulsing
  · exact absurd ‹_› hsettling
  · rfl

theorem takeUpStop_stands (hcause : r.cause = none) (hsense : r.sense = some want) :
    takeUpStop e want r = { r with handSet := false, desired := some want, action := .done } :=
  if_pos (StopRecord.drawn_eq_some.mpr ⟨hcause, hsense⟩)

theorem takeUpStop_differs (h : r.cause ≠ none ∨ r.sense ≠ some want) : takeUpStop e want r = beginPulse e want
    { r with handSet := false, cause := if r.cause = some .abandoned then none else r.cause } :=
  if_neg fun hdrawn => by
    obtain ⟨hcause, hsense⟩ := StopRecord.drawn_eq_some.mp hdrawn
    exact h.elim (absurd hcause) (absurd hsense)

end

/-! ### The request (R182, R186) -/

/-- The apply record that a request leaves before the stops are taken up: a new one, or the one in flight
retargeted. -/
def Apply.asked (a : Apply) (reg : Nat) (origin : ApplyOrigin) (now : Tick) : Apply :=
  if a.state = .inFlight then
    { a with
      registration := some reg, origin := some origin
      readerWaiting := if origin = .reader then true else a.readerWaiting }
  else
    { state := .inFlight, registration := some reg, origin := some origin, startTick := some now
      endTick := Option.none, taken := 0, pulses := 0, faults := 0, readerWaiting := decide (origin = .reader) }

theorem Apply.asked_state (a : Apply) (reg : Nat) (origin : ApplyOrigin) (now : Tick) :
    (a.asked reg origin now).state = .inFlight := by
  rw [Apply.asked]
  split
  · assumption
  · rfl

theorem Apply.asked_eq {a base : Apply} {reg : Nat} {origin : ApplyOrigin} {now : Tick}
    (hretarget : a.state = .inFlight → base = { a with
      registration := some reg, origin := some origin
      readerWaiting := if origin = .reader then true else a.readerWaiting })
    (hnew : a.state ≠ .inFlight → base =
      { state := .inFlight, registration := some reg, origin := some origin, startTick := some now
        endTick := Option.none, taken := 0, pulses := 0, faults := 0, readerWaiting := decide (origin = .reader) }) :
    base = a.asked reg origin now := by
  rw [Apply.asked]
  split
  · exact hretarget ‹_›
  · exact hnew ‹_›

/-- The stops of an asked apply taken up: what it counts, and each stop's part. -/
def applyAsked (e : Env) (want : Nat → Nat → Bool) (base : Apply) (p : Play) : Play :=
  { p.mapStops (fun d i r => if (e.presentDivision d).isSome = true then retargetStop e (want d i) r else r) with
    apply := { base with
      taken := p.countStops (fun d _ _ => (e.presentDivision d).isSome)
      pulses := min (base.pulses + p.countStops (fun d i r =>
        (e.presentDivision d).isSome && beginsPulse (want d i) r)) 65535 } }

section
variable {reg : Nat} {origin : ApplyOrigin} {want : Nat → Nat → Bool} {e : Env} {p q q' : Play}

theorem requestApply_eq
    (hwant : ∀ d i, want d i = ((e.registration reg).divisions[d]?).any (fun en => en.drawn.getLsbD i)) :
    requestApply e reg origin p = completeApply e (applyAsked e want (p.apply.asked reg origin e.clock) p) := by
  have hwants : want = Registration.wants (e.registration reg) := funext fun d => funext fun i => hwant d i
  have hmark : (p.apply.readerWaiting || decide (origin = .reader)) =
      if origin = .reader then true else p.apply.readerWaiting := by
    cases origin <;> simp
  rw [requestApply, hmark, hwants]
  rfl

/-- A request's apply goes on, or completes at once; a reader that is PREPARING then begins its gap. -/
theorem requestApply_outcome
    (hwant : ∀ d i, want d i = ((e.registration reg).divisions[d]?).any (fun en => en.drawn.getLsbD i))
    (hq : q = applyAsked e want (p.apply.asked reg origin e.clock) p) (hq' : q' = applyCompleted e q) :
    (applyDone e q = false → requestApply e reg origin p = q) ∧
    (applyDone e q = true → p.reader.flow ≠ .preparing → requestApply e reg origin p = q') ∧
    (applyDone e q = true → p.reader.flow = .preparing → requestApply e reg origin p = beginGap e q') := by
  have hstate : q.apply.state = .inFlight := by rw [hq]; exact Apply.asked_state ..
  have hreader : q.reader = p.reader := by rw [hq]; rfl
  rw [requestApply_eq hwant, ← hq, hq']
  refine ⟨fun hdone => completeApply_waiting (.inr hdone), fun hdone hflow => ?_, fun hdone hflow => ?_⟩
  · rw [completeApply_done hstate hdone, hreader, if_neg hflow]
  · rw [completeApply_done hstate hdone, hreader, if_pos hflow]

end

/-! ### STOPS APPLY (R182) -/

section
variable {s : State} {reg : Nat}

theorem exec_stopsApply (hs : Ready s) (reg : Nat) : exec (.stopsApply reg) s = .next (carryStopsApply reg s.hunt) :=
  congrArg _ (State.request_ready hs rfl _)

theorem exec_stopsApply_taken {t : State} (hs : Ready s) (hreg : reg ≤ 31) (hrunning : s.chain.phase = .running)
    (ht : t = afterwards s (requestApply s.toEnv reg .host s.play)) :
    exec (.stopsApply reg) s = .next { t with link := replyLink s 0x38 (putApply t.play.apply) } := by
  have hrunning' : ¬ s.hunt.chain.phase ≠ .running := not_not.mpr hrunning
  rw [exec_stopsApply hs, carryStopsApply, if_neg (Nat.not_lt.mpr hreg), if_neg hrunning', ht]
  rfl

end

/-- Settles O58: each stop's part, when an apply is done, and the request of either origin, which STOPS APPLY makes for
the host. -/
theorem stopsApplyTakesStopsUp : Obligations.StopsApplyTakesStopsUp := by
  refine ⟨fun e want r pulsed hpulsed => ⟨retargetStop_pulsing, fun h hd => ?_, fun h hd => ?_, fun hp hst => ?_⟩,
    fun e p => applyDone_iff, fun reg origin want base a e p q q' hwant hretarget hnew ha hq hq' => ?_,
    fun reg s hs => ⟨fun hreg => ?_, fun hreg hphase => ?_,
      fun want base a q q' t hreg hrunning hwant hretarget hnew ha hq hq' => ?_⟩⟩
  · rw [retargetStop_settling h, if_pos hd]
  · rw [retargetStop_settling h, if_neg hd, hpulsed]
    rfl
  · rw [retargetStop_rest hp hst]
    refine ⟨takeUpStop_stands, fun h => ?_⟩
    rw [takeUpStop_differs h, hpulsed]
    rfl
  · have hbase := Apply.asked_eq hretarget hnew
    exact requestApply_outcome hwant (by rw [hq, ha, hbase, applyAsked]) (by rw [hq', hq, applyCompleted]; rfl)
  · rw [exec_stopsApply hs, carryStopsApply, if_pos hreg]
    rfl
  · have hphase' : s.hunt.chain.phase ≠ .running := hphase
    rw [exec_stopsApply hs, carryStopsApply, if_neg (Nat.not_lt.mpr hreg), if_pos hphase']
    rfl
  · have hbase : base = s.play.apply.asked reg .host s.clock := Apply.asked_eq hretarget hnew
    obtain ⟨hgoesOn, hcompletes, hgap⟩ := requestApply_outcome (e := s.toEnv) (p := s.play) (q := q) (q' := q')
      (origin := .host) hwant (by rw [hq, ha, hbase, applyAsked]) (by rw [hq', hq, applyCompleted]; rfl)
    have hatOnce : q.atOnce = s.play.atOnce := by rw [hq]; rfl
    have hatOnce' : q'.atOnce = s.play.atOnce := by rw [hq']; exact hatOnce
    refine ⟨fun hdone hsettled => ?_, fun hdone hflow hsettled => ?_, fun hdone hflow ht => ?_⟩
    · rw [exec_stopsApply_taken hs hreg hrunning rfl, hgoesOn hdone, afterwards_settled (hatOnce.trans hsettled), hq]
    · rw [exec_stopsApply_taken hs hreg hrunning rfl, hcompletes hdone hflow,
        afterwards_settled (hatOnce'.trans hsettled)]
    · exact exec_stopsApply_taken hs hreg hrunning (by rw [hgap hdone hflow, ht])

end Sys2Proof.Machine
end

section
/-! PROOF (O59). A stop's pulse end and its timeout (R183, R184, R186), the gap after an apply (R137), and a stop's sense
bit (R179, R180, R184). -/

namespace Sys2Proof.Machine

/-! ### Pulse ends (R183, R184, R186) -/

section
variable {e : Env} {d i : Nat} {p : Play} {r : StopRecord}

theorem endPulse_not_due (h : pulseEndDue e p d i = false) : endPulse e d i p = p := by
  rw [endPulse]
  rw [pulseEndDue] at h
  split
  · rfl
  · rename_i r hr
    refine if_neg fun ⟨haction, hcome⟩ => ?_
    simp [hr, haction, hcome] at h

section
variable {u : Tick} {want : Bool} (hr : p.stop d i = some r) (haction : r.action = .pulsing) (hu : r.pulseEnd = some u)
  (hcome : hasCome e.clock u = true) (hwant : r.desired = some want)
include hr haction hu hcome hwant

theorem endPulse_due : endPulse e d i p =
    if r.drive = some (if want then .on else .off) then
      p.setStop d i { r with action := .settling, drive := none, pulseEnd := none }
    else { p.setStop d i (beginPulse e want r) with apply := p.apply.addPulses 1 } := by
  have hdue : r.action = .pulsing ∧ dueAt e.clock r.pulseEnd = true := ⟨haction, by rw [hu]; exact hcome⟩
  simp only [endPulse, hr, if_pos hdue, hwant, Option.getD_some]

/-- A stop driven as desired settles. -/
theorem endPulse_settles (hdrive : r.drive = some (if want then .on else .off)) : endPulse e d i p =
    p.setStop d i { r with action := .settling, drive := none, pulseEnd := none } := by
  rw [endPulse_due hr haction hu hcome hwant, if_pos hdrive]

/-- R186: a stop whose desired state was turned while it was PULSING is pulsed the other way. -/
theorem endPulse_turns (hdrive : r.drive ≠ some (if want then .on else .off)) : endPulse e d i p =
    { p.setStop d i { r with
        drive := some (if want then .on else .off)
        pulseEnd := some (e.clock + BitVec.ofNat 32 e.organ.settings.pulseTime)
        timeout := some (later (e.clock + BitVec.ofNat 32 e.organ.settings.stopTimeout)
          (e.clock + BitVec.ofNat 32 e.organ.settings.pulseTime + 4#32)) } with
      apply := { p.apply with pulses := min (p.apply.pulses + 1) 65535 } } := by
  rw [endPulse_due hr haction hu hcome hwant, if_neg hdrive, beginPulse, ← haction, ← hwant]
  rfl

end

/-! ### Timeouts (R184) -/

theorem timeOutStop_not_due (h : timeoutDue e p d i = false) : timeOutStop e d i p = p := by
  rw [timeOutStop]
  rw [timeoutDue] at h
  split
  · rfl
  · rename_i r hr
    refine if_neg fun ⟨haction, hcome⟩ => ?_
    simp [hr, haction, hcome] at h

/-- The play with a stop FAULT: counted in the apply and in counter STOP FAULT, with latch STOP FAULT. -/
def stopFailed (d i : Nat) (r : StopRecord) (p : Play) : Play :=
  { p.setStop d i { r with action := .fault, timeout := none } with
    apply := { p.apply with faults := min (p.apply.faults + 1) 64 }
    counters := p.counters.modify 14 (fun n => min (n + 1) 65535)
    latches := p.latches ||| 65536#19 }

theorem timeOutStop_due {u : Tick} (hr : p.stop d i = some r) (haction : r.action = .settling)
    (hu : r.timeout = some u) (hcome : hasCome e.clock u = true) :
    timeOutStop e d i p = completeApply e (stopFailed d i r p) := by
  have hdue : r.action = .settling ∧ dueAt e.clock r.timeout = true := ⟨haction, by rw [hu]; exact hcome⟩
  simp only [timeOutStop, hr, if_pos hdue]
  rfl

end

/-! ### The sense bit (R179, R180, R184) -/

section
variable {bit : Bool} {r : StopRecord}

theorem settleStop_agrees (haction : r.action = .settling) (hsense : r.sense = r.desired) :
    settleStop r = { r with action := .done, timeout := none } := if_pos ⟨haction, hsense⟩

theorem settleStop_stays (h : r.action ≠ .settling ∨ r.sense ≠ r.desired) : settleStop r = r :=
  if_neg fun ⟨haction, hsense⟩ => h.elim (· haction) (· hsense)

theorem senseStop_abandoned (h : r.cause = some .abandoned) : senseStop bit r = { r with sense := some bit } := by
  simp only [senseStop, h]

theorem senseStop_unread (h : r.cause = some .unread) :
    senseStop bit r = settleStop { r with sense := some bit, cause := none } := by
  simp only [senseStop, h]

theorem handSetBy_iff : handSetBy bit r = true ↔
    r.cause = none ∧ r.sense = some (!bit) ∧ (r.action = .idle ∨ r.action = .done) := by
  have hdiffers : r.sense.any (fun b => decide (b ≠ bit)) = true ↔ r.sense = some (!bit) := by
    cases r.sense with
    | none => simp
    | some b => cases b <;> cases bit <;> simp
  rw [handSetBy, Bool.and_eq_true, Bool.and_eq_true, hdiffers, Bool.or_eq_true, decide_eq_true_eq, decide_eq_true_eq,
    decide_eq_true_eq, and_assoc]

/-- A stop of known state takes its bit, and the mark where the bit is a hand's. -/
theorem senseStop_known (h : r.cause = none) : senseStop bit r = settleStop { r with
    sense := some bit
    handSet := if (r.action = .idle ∨ r.action = .done) ∧ r.sense = some (!bit) then true else r.handSet } := by
  have hmark : (handSetBy bit r || r.handSet) =
      if (r.action = .idle ∨ r.action = .done) ∧ r.sense = some (!bit) then true else r.handSet := by
    split
    · rename_i hhand
      rw [handSetBy_iff.mpr ⟨h, hhand.2, hhand.1⟩, Bool.true_or]
    · rename_i hhand
      have hnot : handSetBy bit r = false := Bool.eq_false_iff.mpr fun hset =>
        have ⟨_, hsense, haction⟩ := handSetBy_iff.mp hset
        hhand ⟨haction, hsense⟩
      rw [hnot, Bool.false_or]
  simp only [senseStop, h, ← hmark]

/-- A SETTLING stop takes no mark: its bit makes its state known, and settles it when it agrees. -/
theorem senseStop_settling (haction : r.action = .settling) (hcause : r.cause ≠ some .abandoned) :
    senseStop bit r = settleStop { r with sense := some bit, cause := none } := by
  cases h : r.cause with
  | none =>
    rw [senseStop_known h, if_neg (by simp [haction]), ← h]
  | some cause =>
    cases cause with
    | unread => exact senseStop_unread h
    | abandoned => exact absurd h hcause

end

/-- Settles O59: a stop's two expiries, the second with the apply that it may complete, the gap that then begins, and a
stop's sense bit. -/
theorem pulsesTimeoutsAndSense : Obligations.PulsesTimeoutsAndSense := by
  refine ⟨fun d i s hs => ⟨fun h => exec_act_same rfl hs (endPulse_not_due h),
      fun h => exec_act_same rfl hs (timeOutStop_not_due h),
      fun r want u hsettled hr haction hu hcome hwant => ⟨fun hdrive => ?_, fun hdrive => ?_⟩,
      fun r u q q' hr haction hu hcome hq hq' => ?_⟩,
    fun e p item plan sec hitem hplan hsec g hg => ?_,
    fun bit r => ⟨senseStop_abandoned, fun haction => ⟨fun h => ?_, fun h => ?_⟩,
      fun haction hcause => ⟨fun hwant => ?_, fun hwant => ?_⟩⟩⟩
  · have hended := endPulse_settles (e := s.toEnv) hr haction hu hcome hwant hdrive
    rw [exec_act_settled rfl hs (by rw [hended]; exact hsettled), hended]
  · have hended := endPulse_turns (e := s.toEnv) hr haction hu hcome hwant hdrive
    rw [exec_act_settled rfl hs (by rw [hended]; exact hsettled), hended]
  · have hfailed : q = stopFailed d i r s.play := hq
    have hcompleted : q' = applyCompleted s.toEnv q := hq'
    have hstate : q.apply.state = s.play.apply.state := by rw [hq]
    have hreader : q.reader = s.play.reader := by rw [hq]; rfl
    have hatOnce : q.atOnce = s.play.atOnce := by rw [hq]; rfl
    have hatOnce' : q'.atOnce = s.play.atOnce := by rw [hq']; exact hatOnce
    rw [exec_act rfl hs, timeOutStop_due hr haction hu hcome, ← hfailed]
    refine ⟨fun hwaits hsettled => ?_, fun hflight hdone => ⟨fun hflow hsettled => ?_, fun hflow => ?_⟩⟩
    · rw [completeApply_waiting (hstate ▸ hwaits), afterwards_settled (hatOnce.trans hsettled)]
    · rw [completeApply_done (hstate.trans hflight) hdone, hreader, if_neg hflow, ← hcompleted,
        afterwards_settled (hatOnce'.trans hsettled)]
    · rw [completeApply_done (hstate.trans hflight) hdone, hreader, if_pos hflow, ← hcompleted]
  · rw [← gapTicks_eq hitem hplan hsec] at hg
    subst hg
    exact ⟨beginGap_none, beginGap_some⟩
  · exact (senseStop_unread h).trans (settleStop_stays (.inl haction))
  · exact (senseStop_known h).trans (settleStop_stays (.inl haction))
  · exact (senseStop_settling haction hcause).trans (settleStop_agrees haction hwant.symm)
  · exact (senseStop_settling haction hcause).trans (settleStop_stays (.inr (Ne.symm hwant)))

end Sys2Proof.Machine
end

section
/-! SUPPORT (O19). The form of a stop record (R178, R183, R184), state by state, and what each change of a stop record
does to it. -/

namespace Sys2Proof.Machine

/-! ### The form by the action state -/

section
variable {r : StopRecord}

theorem stopOk_pulsing (h : r.action = .pulsing) :
    StopOk r ↔ r.drive.isSome = true ∧ r.pulseEnd.isSome = true ∧ r.timeout.isSome = true := by
  simp [StopOk, h]

theorem stopOk_settling (h : r.action = .settling) :
    StopOk r ↔ r.drive = none ∧ r.pulseEnd = none ∧ r.timeout.isSome = true := by
  simp [StopOk, h]

/-- A stop that is neither PULSING nor SETTLING has no drive and no expiry. -/
theorem stopOk_rest (hpulsing : r.action ≠ .pulsing) (hsettling : r.action ≠ .settling) :
    StopOk r ↔ r.drive = none ∧ r.pulseEnd = none ∧ r.timeout = none := by
  simp [StopOk, hpulsing, hsettling]

/-! ### Changes of one record -/

/-- R183: a pulse drives a magnet and has both expiries, whatever the record was. -/
theorem stopOk_beginPulse (e : Env) (want : Bool) (r : StopRecord) : StopOk (beginPulse e want r) :=
  (stopOk_pulsing rfl).mpr ⟨rfl, rfl, rfl⟩

theorem stopOk_takeUpStop (e : Env) (want : Bool) (h : StopOk r) (hpulsing : r.action ≠ .pulsing)
    (hsettling : r.action ≠ .settling) : StopOk (takeUpStop e want r) := by
  unfold takeUpStop
  split
  · exact (stopOk_rest (by simp) (by simp)).mpr ((stopOk_rest hpulsing hsettling).mp h)
  · exact stopOk_beginPulse e want _

theorem stopOk_retargetStop (e : Env) (want : Bool) (h : StopOk r) : StopOk (retargetStop e want r) := by
  by_cases hpulsing : r.action = .pulsing
  · rw [retargetStop_pulsing hpulsing]
    exact h
  · by_cases hsettling : r.action = .settling
    · rw [retargetStop_settling hsettling]
      split
      · exact h
      · exact stopOk_beginPulse e want _
    · rw [retargetStop_rest hpulsing hsettling]
      exact stopOk_takeUpStop e want h hpulsing hsettling

/-- R184: a stop that settles leaves SETTLING with its timeout. -/
theorem stopOk_settleStop (h : StopOk r) : StopOk (settleStop r) := by
  unfold settleStop
  split
  · rename_i hs
    obtain ⟨hdrive, hpulse, -⟩ := (stopOk_settling hs.1).mp h
    exact (stopOk_rest (by simp) (by simp)).mpr ⟨hdrive, hpulse, rfl⟩
  · exact h

theorem stopOk_senseStop (bit : Bool) (h : StopOk r) : StopOk (senseStop bit r) := by
  cases hcause : r.cause with
  | none =>
    rw [senseStop_known hcause]
    exact stopOk_settleStop h
  | some cause =>
    cases cause with
    | unread =>
      rw [senseStop_unread hcause]
      exact stopOk_settleStop h
    | abandoned =>
      rw [senseStop_abandoned hcause]
      exact h

theorem stopOk_abandonStop (r : StopRecord) : StopOk (abandonStop r) :=
  (stopOk_rest (by simp [abandonStop]) (by simp [abandonStop])).mpr ⟨rfl, rfl, rfl⟩

/-- R184: at its pulse end a stop keeps its timeout alone. -/
theorem stopOk_pulseEnded (h : StopOk r) (hpulsing : r.action = .pulsing) :
    StopOk { r with action := .settling, drive := none, pulseEnd := none } := by
  obtain ⟨-, -, htimeout⟩ := (stopOk_pulsing hpulsing).mp h
  exact (stopOk_settling rfl).mpr ⟨rfl, rfl, htimeout⟩

/-- R184: at its timeout a stop has neither a drive nor an expiry. -/
theorem stopOk_timedOut (h : StopOk r) (hsettling : r.action = .settling) :
    StopOk { r with action := .fault, timeout := none } := by
  obtain ⟨hdrive, hpulse, -⟩ := (stopOk_settling hsettling).mp h
  exact (stopOk_rest (by simp) (by simp)).mpr ⟨hdrive, hpulse, rfl⟩

end

/-! ### The stop records of a play -/

/-- Play q has as many stop records a division as play p, and has them in form when p has. -/
def StopsKept (p q : Play) : Prop :=
  q.stops.map List.length = p.stops.map List.length ∧
  ((∀ l ∈ p.stops, ∀ r ∈ l, StopOk r) → ∀ l ∈ q.stops, ∀ r ∈ l, StopOk r)

section
variable {p q u : Play}

theorem StopsKept.of_stops (h : q.stops = p.stops) : StopsKept p q := by
  rw [StopsKept, h]
  exact ⟨rfl, id⟩

theorem StopsKept.refl (p : Play) : StopsKept p p := .of_stops rfl

theorem StopsKept.trans (h : StopsKept p q) (h' : StopsKept q u) : StopsKept p u :=
  ⟨h'.1.trans h.1, fun hp => h'.2 (h.2 hp)⟩

/-- What has a play's stop records keeps them too. -/
theorem StopsKept.stops_right (h : StopsKept p q) (hu : u.stops = q.stops) : StopsKept p u := h.trans (.of_stops hu)

theorem StopsKept.stops_left (h : StopsKept q u) (hq : q.stops = p.stops) : StopsKept p u :=
  (StopsKept.of_stops hq).trans h

/-- A change of every stop record that keeps each in form. -/
theorem stopsKept_mapStops {f : Nat → Nat → StopRecord → StopRecord} (h : ∀ d i r, StopOk r → StopOk (f d i r)) :
    StopsKept p (p.mapStops f) := by
  constructor
  · rw [Play.mapStops_stops]
    refine List.ext_getElem? fun d => ?_
    rw [List.getElem?_map, List.getElem?_map, mapFrom_getElem?, Option.map_map]
    exact congrArg (Option.map · p.stops[d]?) (funext fun l => mapFrom_length _ _ l)
  · intro hp l hl r hr
    obtain ⟨d, k, hk, rfl⟩ := mem_mapFrom.mp hl
    obtain ⟨i, x, hx, rfl⟩ := mem_mapFrom.mp hr
    exact h _ _ _ (hp k (List.mem_of_getElem? hk) x (List.mem_of_getElem? hx))

/-- One stop record written over by one that is in form when the play's are. -/
theorem stopsKept_setStop {d i : Nat} {r r' : StopRecord} (hr : p.stop d i = some r)
    (h : StopOk r → StopOk r') : StopsKept p (p.setStop d i r') := by
  obtain ⟨k, hk, hr⟩ := Play.stop_eq_some.mp hr
  constructor
  · rw [Play.setStop_stops]
    refine List.ext_getElem? fun j => ?_
    rw [List.getElem?_map, List.getElem?_map, List.getElem?_modify, Option.map_eq_map, Option.map_map]
    refine congrArg (Option.map · p.stops[j]?) (funext fun l => ?_)
    simp only [Function.comp_apply]
    split <;> simp
  · intro hp l hl
    have hr' : StopOk r' := h (hp k (List.mem_of_getElem? hk) r (List.mem_of_getElem? hr))
    obtain ⟨j, hj⟩ := List.getElem?_of_mem hl
    rw [Play.setStop_stops, List.getElem?_modify] at hj
    obtain ⟨m, hm, rfl⟩ := Option.map_eq_some_iff.mp hj
    have hform := hp m (List.mem_of_getElem? hm)
    split
    · exact forall_mem_set hform hr' i
    · exact hform

end

end Sys2Proof.Machine
end

section
/-! SUPPORT (O19). The operations of playing that leave every stop record alone: the keying, the tracker, the matcher,
the section start and the scheduling. -/

namespace Sys2Proof.Machine

theorem KeyingAlone.stops {p q : Play} (h : KeyingAlone p q) : q.stops = p.stops := by
  rw [h]

section
variable (e : Env) (i : Nat) (p : Play)

@[simp] theorem Play.countIf_stops (b : Bool) (c : Counter) : (p.countIf b c).stops = p.stops := by
  cases b <;> rfl

/-! ### Keying (R156 to R169) -/

@[simp] theorem retire_stops : (retire e i p).stops = p.stops := (retire_keyingAlone e i p).stops

@[simp] theorem takeOnTime_stops : (takeOnTime e i p).stops = p.stops := by
  unfold takeOnTime
  split
  · exact (keyRecord_keyingAlone e i p).stops
  · rfl

@[simp] theorem takeOffTime_stops : (takeOffTime e i p).stops = p.stops := by
  unfold takeOffTime
  split <;> simp

@[simp] theorem takeDeadline_stops : (takeDeadline e i p).stops = p.stops := by
  unfold takeDeadline
  split <;> simp

/-! ### Following the reference (R90, R111 to R121) -/

@[simp] theorem deriveWindow_stops : (deriveWindow e p).stops = p.stops := by
  rw [deriveWindow_eq]

@[simp] theorem deriveScheduling_stops : (deriveScheduling e p).stops = p.stops := by
  rw [deriveScheduling_eq]

@[simp] theorem deriveExpiries_stops : (deriveExpiries e p).stops = p.stops := by
  rw [deriveExpiries_eq]

@[simp] theorem trackerUpdate_stops : (trackerUpdate e p).stops = p.stops := deriveExpiries_stops e _

@[simp] theorem takeMiss_stops : (takeMiss p).stops = p.stops := by
  rw [takeMiss_eq]

@[simp] theorem takeWindowClose_stops : (takeWindowClose e p).stops = p.stops := by
  unfold takeWindowClose closeWindow
  split
  · split <;> simp
  · rfl

@[simp] theorem takeCorrection_stops (a : Nat) (t : Tick) (tag : Option Nat) :
    (takeCorrection e a t tag p).stops = p.stops := by
  by_cases h : p.tracker.tracking = true ∧ tag = p.tracker.tag
  · rw [h.2, takeCorrection_taken h.1, trackerUpdate_stops]
  · rw [takeCorrection_refused (by simpa only [not_and_or, Bool.not_eq_true] using h)]

@[simp] theorem rebaseNow_stops : (rebaseNow e p).stops = p.stops := by
  unfold rebaseNow
  simp only
  split <;> simp

@[simp] theorem putTrack_stops (params : TrackParams) : (putTrack params e p).stops = p.stops := by
  unfold putTrack
  simp only
  split <;> simp

/-! ### Holds (R121 to R127) -/

@[simp] theorem enterHold_stops (entry : HoldEntry) (f : Fermata) : (enterHold e entry f p).stops = p.stops := by
  rw [enterHold_eq rfl rfl]

@[simp] theorem extendHold_stops : (extendHold e p).stops = p.stops := by
  unfold extendHold
  split <;> simp

@[simp] theorem endHold_stops : (endHold e p).stops = p.stops := by
  unfold endHold
  simp only
  split
  · rw [deriveExpiries_stops, (convertAtHoldEnd_keysAlone e _ _).keyingAlone.stops, Play.latch_stops]
  · rfl

@[simp] theorem takeFermata_stops : (takeFermata e p).stops = p.stops := by
  unfold takeFermata
  split
  · split <;> simp
  · rfl

/-! ### Reports (R95 to R103) -/

@[simp] theorem testReport_stops (c : Nat) (t : Tick) : (testReport e c t p).stops = p.stops := by
  unfold testReport
  split
  · split <;> rfl
  · split
    · simp [matchAnchor]
    · rfl

@[simp] theorem takeFirstArrival_stops (c : Nat) (t : Tick) : (takeFirstArrival e c t p).stops = p.stops := by
  unfold takeFirstArrival
  split <;> simp

@[simp] theorem takePair_stops (d : Nat) (k : Candidate) (c : Nat) (t : Tick) (strength : Nat) :
    (takePair e d k c t strength p).stops = p.stops := by
  unfold takePair
  simp only
  split <;> simp

@[simp] theorem takeOnset_stops (c : Nat) (t : Tick) (strength : Nat) :
    (takeOnset e c t strength p).stops = p.stops := by
  unfold takeOnset
  split
  · exact takeFirstArrival_stops e p c t
  · split
    · unfold takeAgreement
      simp only
      repeat' split
      all_goals simp
    · rfl

@[simp] theorem takeReport_stops (c : Nat) (r : Report) : (takeReport e c r p).stops = p.stops := by
  unfold takeReport takeRelease
  split
  · rfl
  · simp
  · split
    · split <;> simp
    · simp

@[simp] theorem expireCandidate_stops (c : Nat) : (expireCandidate e c p).stops = p.stops := by
  unfold expireCandidate
  split
  · rfl
  · split <;> simp

@[simp] theorem forgetMatchedTime_stops : (forgetMatchedTime e i p).stops = p.stops := by
  unfold forgetMatchedTime
  split <;> rfl

/-! ### Sections and items (R137, R138, R143 to R146, R185) -/

@[simp] theorem startSection_stops : (startSection e p).stops = p.stops := by
  unfold startSection
  split
  · simp [trackerSectionStart_eq]
  · rfl

/-- R185: an apply's completion changes its record and goes on to the gap; the stops stay as they have come to rest. -/
@[simp] theorem completeApply_stops : (completeApply e p).stops = p.stops := by
  unfold completeApply beginGap
  split
  · simp only
    split
    · split <;> simp
    · rfl
  · rfl

@[simp] theorem trackerSectionEnd_stops : (trackerSectionEnd p).stops = p.stops := by
  unfold trackerSectionEnd
  simp only
  split <;> rfl

@[simp] theorem itemEnd_stops (cause : EndCause) : (itemEnd cause p).stops = p.stops := by
  rw [itemEnd_eq]
  rfl

/-! ### Scheduling and presses (R139 to R150) -/

@[simp] theorem setFermata_stops (f : Fermata) : (setFermata e f p).stops = p.stops := by
  rw [setFermata_eq]

@[simp] theorem schedule_stops : (schedule e p).stops = p.stops := by
  unfold schedule
  split
  · split
    · rename_i item tune sec k ev _ _ _ _
      have noted := (foldl_keyingAlone p (fun q note => handNote_keyingAlone e q
        (e.registration (sectionRegistration item sec)) tune (originOf sec) p.reader.tag ev.position note) ev.notes).stops
      unfold scheduleEvent
      simp only [deriveScheduling_stops, Play.push_stops]
      split
      · rw [setFermata_stops, noted]
      · exact noted
    · rfl
  · rfl

@[simp] theorem pressHold_stops : (pressHold e p).stops = p.stops := by
  unfold pressHold
  split
  · split
    · simp
    · split <;> simp
  · rfl

@[simp] theorem pressStop_stops : (pressStop p).stops = p.stops := by
  unfold pressStop
  split <;> simp

@[simp] theorem recordPress_stops (b : Button) (now : Tick) (taken : Bool) :
    (recordPress b now taken p).stops = p.stops :=
  Play.countIf_stops _ _ _

@[simp] theorem setCue_stops (b : Button) (c : CueInput) : (setCue b c p).stops = p.stops := by
  cases b <;> rfl

@[simp] theorem cancelAll_stops : (cancelAll p).stops = p.stops := by
  unfold cancelAll
  simp only
  split
  · rfl
  · rw [itemEnd_stops]
    rfl

@[simp] theorem putHorizon_stops (n : Nat) : (putHorizon n e p).stops = p.stops := deriveScheduling_stops e _

end

end Sys2Proof.Machine
end

section
/-! SUPPORT (O19). The operations of playing that move stops: applies, pulses, sense reads and closing sequences, and
what leads to an apply. Each keeps the stop records. -/

namespace Sys2Proof.Machine

section
variable (e : Env) (p : Play)

/-! ### Applies and stops (R179 to R187) -/

theorem stopsKept_requestApply (registration : Nat) (origin : ApplyOrigin) :
    StopsKept p (requestApply e registration origin p) := by
  unfold requestApply takeUpStops
  refine StopsKept.stops_right (StopsKept.stops_left (stopsKept_mapStops fun d i r h => ?_) rfl)
    (completeApply_stops e _)
  split
  · exact stopOk_retargetStop e _ h
  · exact h

theorem stopsKept_endPulse (d i : Nat) : StopsKept p (endPulse e d i p) := by
  unfold endPulse
  split
  · exact .refl p
  · rename_i r hr
    split
    · rename_i hdue
      exact iteInduction (motive := StopsKept p)
        (fun _ => stopsKept_setStop hr fun h => stopOk_pulseEnded h hdue.1)
        (fun _ => (stopsKept_setStop hr fun _ => stopOk_beginPulse e _ r).stops_right rfl)
    · exact .refl p

theorem stopsKept_timeOutStop (d i : Nat) : StopsKept p (timeOutStop e d i p) := by
  unfold timeOutStop
  split
  · exact .refl p
  · rename_i r hr
    split
    · rename_i hdue
      exact (stopsKept_setStop hr fun h => stopOk_timedOut h hdue.1).stops_right (completeApply_stops e _)
    · exact .refl p

theorem stopsKept_senseRead (bits : SenseImage) : StopsKept p (senseRead e bits p) := by
  unfold senseRead
  refine StopsKept.stops_right (stopsKept_mapStops (p := p) fun d i r h => stopOk_senseStop (e.senseBit bits d i) h) ?_
  simp only [completeApply_stops]
  split <;> rfl

theorem stopsKept_abandonApply : StopsKept p (abandonApply e p) := by
  refine StopsKept.stops_right (stopsKept_mapStops fun d i r h => ?_) rfl
  split
  · exact stopOk_abandonStop r
  · exact h

theorem stopsKept_closeTables (survey : Bool) : StopsKept p (closeTables e survey p) := by
  have closed : StopsKept p (closeStops e (retireAll p)) := by
    refine StopsKept.stops_right (StopsKept.stops_left (stopsKept_mapStops fun d i r h => ?_) rfl) rfl
    split
    · exact stopOk_abandonStop r
    · exact h
  unfold closeTables
  cases survey with
  | true => exact closed
  | false => exact closed.stops_right rfl

theorem stopsKept_faultTables : StopsKept p (faultTables e p) := by
  unfold faultTables
  refine StopsKept.stops_right (StopsKept.stops_left (stopsKept_abandonApply e _) ?_) rfl
  split
  · rfl
  · rw [itemEnd_stops]
    rfl

/-! ### The reader's flow, which asks for applies (R132 to R148) -/

theorem stopsKept_prepare (i : Nat) : StopsKept p (prepare e i p) := by
  unfold prepare
  simp only
  split
  · exact (stopsKept_requestApply e _ _ _).stops_left rfl
  · exact .of_stops rfl

theorem stopsKept_startItem (i startMode n : Nat) (item : Item) (tune : Tune) :
    StopsKept p (startItem i startMode n item tune e p) := by
  unfold startItem
  simp only
  split
  · exact (stopsKept_prepare e _ 0).stops_left rfl
  · exact .of_stops rfl

variable {p} in
theorem stopsKept_takeNext (next : Nat) {go : Play → Play} (h : ∀ q, StopsKept q (go q)) :
    StopsKept p (takeNext e next go p) := by
  unfold takeNext
  split
  · exact (h _).stops_left rfl
  · exact .of_stops rfl

theorem stopsKept_endAction (action : EndAction) (i : Nat) : StopsKept p (endAction e action i p) := by
  unfold endAction
  split
  · exact .of_stops rfl
  · simp only
    split
    · exact .of_stops rfl
    · exact (stopsKept_takeNext e _ (go := waitForGo) fun _ => .of_stops rfl).stops_left rfl
    · exact (stopsKept_takeNext e _ fun q => stopsKept_prepare e q 0).stops_left rfl

theorem stopsKept_endSection : StopsKept p (endSection e p) := by
  have ended : (matcherSectionEnd (trackerSectionEnd p)).stops = p.stops := trackerSectionEnd_stops p
  unfold endSection
  simp only
  split
  · split
    · refine (stopsKept_endAction e _ _ _).stops_left ?_
      rw [itemEnd_stops]
      exact ended
    · refine .of_stops ?_
      rw [itemEnd_stops]
      exact ended
  · exact (stopsKept_prepare e _ _).stops_left ended

theorem stopsKept_testSectionEnd : StopsKept p (testSectionEnd e p) := by
  unfold testSectionEnd
  split
  · exact stopsKept_endSection e p
  · exact .refl p

theorem stopsKept_pressGo : StopsKept p (pressGo e p) := by
  unfold pressGo
  split
  · exact stopsKept_prepare e p 0
  · split
    · exact .of_stops (endHold_stops e p)
    · exact .refl p

theorem stopsKept_debounce (b : Button) : StopsKept p (debounce b e p) := by
  have pressed (q : Play) : StopsKept q (press e b q) := by
    unfold press
    simp only
    split
    · exact (stopsKept_pressGo e _).stops_left (recordPress_stops _ _ _ _)
    · exact .of_stops (by simp)
    · exact .of_stops (by simp)
  unfold debounce
  simp only
  split
  · split
    · exact (pressed _).stops_left (setCue_stops _ _ _)
    · exact .of_stops (setCue_stops _ _ _)
  · exact .refl p

/-! ### Expiries taken at once -/

theorem stopsKept_takeDue (d : Due) : StopsKept p (takeDue e d p) := by
  cases d with
  | onTime i => exact .of_stops (takeOnTime_stops e i p)
  | offTime i => exact .of_stops (takeOffTime_stops e i p)
  | windowClose => exact .of_stops (takeWindowClose_stops e p)
  | scheduling => exact .of_stops (schedule_stops e p)
  | fermata => exact .of_stops (takeFermata_stops e p)
  | sectionTest => exact stopsKept_testSectionEnd e p

theorem stopsKept_settle (n : Nat) : StopsKept p (settle e n p) :=
  settle_induct (P := StopsKept p) (fun _ _ h => h.stops_right rfl) (fun d q h => h.trans (stopsKept_takeDue e q d)) n
    (.refl p)

end

end Sys2Proof.Machine
end

section
/-! PROOF (O19). What a step does to the stop records: nothing, playing that keeps them, a place described anew with its
stop records, or a reset that forms them all anew (R178). -/

namespace Sys2Proof.Machine

/-- State t has its stop records in form, one for each described stop, when state s has. -/
def KeepsStops (s t : State) : Prop := StopsOk s → StopsOk t

section
variable {s t u : State}

/-- The description stays, and playing keeps the stop records. -/
theorem KeepsStops.played (hd : t.organ.divisions = s.organ.divisions) (h : StopsKept s.play t.play) :
    KeepsStops s t := by
  obtain ⟨hlength, hform⟩ := h
  rintro ⟨hcount, hok⟩
  exact ⟨by rw [hlength, hcount, hd], hform hok⟩

theorem KeepsStops.same (hd : t.organ.divisions = s.organ.divisions) (h : t.play.stops = s.play.stops) :
    KeepsStops s t := .played hd (.of_stops h)

theorem KeepsStops.refl (s : State) : KeepsStops s s := id

theorem KeepsStops.trans (h : KeepsStops s t) (h' : KeepsStops t u) : KeepsStops s u := fun hs => h' (h hs)

/-- A change that stays away from both the description and the stop records, made before. -/
theorem KeepsStops.after (h : KeepsStops t u) (hd : t.organ.divisions = s.organ.divisions)
    (hp : t.play.stops = s.play.stops) : KeepsStops s u := .trans (.same hd hp) h

theorem keepsStops_act {f : Env → Play → Play} (h : StopsKept s.play (f s.toEnv s.play)) : KeepsStops s (s.act f) :=
  .played rfl (h.trans (stopsKept_settle _ _ _))

/-- An effect on playing that leaves the stops alone. -/
theorem keepsStops_act_stops {f : Env → Play → Play} (h : (f s.toEnv s.play).stops = s.play.stops) :
    KeepsStops s (s.act f) := keepsStops_act (.of_stops h)

/-! ### Describing and resets (R8, R9, R178, R205) -/

/-- R178: a place that is described anew has its stop records formed anew. -/
theorem keepsStops_describe (s : State) (d : Nat) (v : Option Division) : KeepsStops s (s.describe d v) := by
  rintro ⟨hcount, hok⟩
  constructor
  · calc (s.play.stops.set d (StopRecord.forPlace v)).map List.length
      _ = (s.play.stops.map List.length).set d ((v.map (·.stops.length)).getD 0) := by
          rw [List.map_set, length_forPlace]
      _ = stopCounts (s.organ.divisions.set d v) := by rw [hcount, stopCounts, stopCounts, List.map_set]
  · intro l hl r hr
    obtain hl | rfl := List.mem_or_eq_of_mem_set hl
    · exact hok l hl r hr
    · rw [mem_forPlace hr]
      exact stopOk_fresh

/-- A POWER reset leaves no place described, and no stop record. -/
theorem stopsOk_powerUp (latched : ChestImage) (pending : List Instr) :
    StopsOk { State.powerUp latched with pending := pending } := stopsOk_of_forPlace rfl

/-- Any other reset forms every stop record anew, from the description that it keeps. -/
theorem stopsOk_preparedReset (s : State) (cause : ResetCause) : StopsOk (s.preparedReset cause) :=
  stopsOk_of_forPlace rfl

/-! ### Answers and the chest chain -/

theorem keepsStops_reject (s : State) (code : Nat) (r : Reason) (d : Nat) : KeepsStops s (s.reject code r d) :=
  .same rfl rfl

theorem keepsStops_tested {carry : State → State} (code : Nat) (test : Option (Reason × Nat))
    (h : KeepsStops s (carry s)) : KeepsStops s (s.tested code test carry) := by
  cases test with
  | none => exact h
  | some x => exact keepsStops_reject s code x.1 x.2

theorem keepsStops_payAnswer (s : State) : KeepsStops s s.payAnswer := by
  unfold State.payAnswer
  split <;> exact .same rfl rfl

theorem keepsStops_replyClosing (s : State) (code : Nat) (body : List Byte) :
    KeepsStops s (s.replyClosing code body) := by
  unfold State.replyClosing
  split <;> exact .same rfl rfl

theorem keepsStops_takeSurvey (s : State) : KeepsStops s s.takeSurvey := by
  unfold State.takeSurvey
  split
  · exact .same rfl rfl
  · split <;> exact .same rfl rfl

theorem keepsStops_closingDone (s : State) : KeepsStops s s.closingDone := by
  unfold State.closingDone
  split
  · refine KeepsStops.trans ?_ (keepsStops_payAnswer _)
    exact .played rfl (stopsKept_closeTables _ _ _)
  · exact .refl s

theorem keepsStops_resetShiftDone (s : State) : KeepsStops s s.resetShiftDone := by
  unfold State.resetShiftDone
  split
  · refine KeepsStops.trans ?_ (keepsStops_payAnswer _)
    exact .same rfl rfl
  · exact .refl s

theorem keepsStops_compare (s : State) (ret : ChestImage) : KeepsStops s (s.compare ret) := by
  unfold State.compare State.compareRunning State.compareFault
  split
  · simp only
    split
    · exact .same rfl rfl
    · split
      · exact .played rfl ((stopsKept_faultTables _ _).stops_left rfl)
      · exact .same rfl rfl
  · repeat' split
    all_goals exact .same rfl rfl
  · exact .refl s

theorem keepsStops_deliverSense (s : State) (bits : SenseImage) : KeepsStops s (s.deliverSense bits) := by
  unfold State.deliverSense
  exact (keepsStops_act (stopsKept_senseRead _ _ _)).after rfl rfl

/-- A completed scan keeps the stop records, in either order of its comparison and its sense read (log 19). -/
theorem keepsStops_completeScan (s : State) (image ret : ChestImage) (bits : SenseImage) :
    KeepsStops s (s.completeScan image ret bits) := by
  have latched (t : State) : KeepsStops t (t.latchImage image) := .same rfl rfl
  have compareFirst := ((keepsStops_compare s ret).trans (keepsStops_deliverSense _ bits)).trans (latched _)
  unfold State.completeScan
  split
  · split
    · exact ((keepsStops_deliverSense s bits).trans (keepsStops_compare _ ret)).trans (latched _)
    · exact compareFirst
  · exact compareFirst

/-! ### Listening and matching -/

theorem keepsStops_deriveBehaviour (s : State) : KeepsStops s s.deriveBehaviour := by
  have taken (held : List (Nat × Candidate)) (t : State) : KeepsStops t (t.takeCandidates held) := by
    induction held generalizing t with
    | nil => exact .refl t
    | cons x rest ih => exact (keepsStops_act_stops (takeFirstArrival_stops _ _ _ _)).trans (ih _)
  unfold State.deriveBehaviour
  simp only
  split
  · exact .refl s
  · exact (taken _ _).after rfl rfl

theorem keepsStops_setListening (s : State) (l : Listening) : KeepsStops s (s.setListening l) :=
  (keepsStops_deriveBehaviour _).after rfl rfl

theorem keepsStops_putMatch (s : State) (mode : MatchMode) (merge : Nat) : KeepsStops s (s.putMatch mode merge) :=
  (keepsStops_deriveBehaviour _).after rfl rfl

theorem keepsStops_completeFrame (s : State) (i low high : Nat) : KeepsStops s (s.completeFrame i low high) := by
  have reports (u : State) (c d : Nat) (r r' : Report) :
      KeepsStops u ((u.act (fun e p => takeReport e c r p)).act (fun e p => takeReport e d r' p)) :=
    (keepsStops_act_stops (takeReport_stops _ _ _ _)).trans (keepsStops_act_stops (takeReport_stops _ _ _ _))
  unfold State.completeFrame
  simp only
  split <;> exact (reports _ _ _ _ _).after rfl rfl

theorem keepsStops_takePair (s : State) (i : Nat) (a : AudioInput) (low high : Sample) :
    KeepsStops s (s.takePair i a low high) := by
  have latched (t : State) : KeepsStops t (if a.present then t else { t with play := t.play.latch .microphone }) := by
    split <;> exact .same rfl rfl
  unfold State.takePair
  simp only
  split
  · exact ((keepsStops_setListening s _).trans (latched _)).trans (keepsStops_completeFrame _ _ _ _)
  · exact (keepsStops_setListening s _).trans (latched _)

end

/-! ### Requests carried out -/

section
variable {s : State}

theorem keepsStops_act_reply {f : Env → Play → Play} (h : StopsKept s.play (f s.toEnv s.play)) (code : Nat)
    (body : List Byte) : KeepsStops s ((s.act f).reply code body) := (keepsStops_act h).trans (.same rfl rfl)

theorem keepsStops_releaseSlot (slot : Option Nat) : KeepsStops s (s.releaseSlot slot) := by
  unfold State.releaseSlot
  split
  · exact keepsStops_reject s _ _ _
  · exact keepsStops_act_reply (.of_stops (retire_stops _ _ _)) _ _

theorem keepsStops_carryKeyRelease (which : KeyRef) : KeepsStops s (carryKeyRelease which s) := by
  unfold carryKeyRelease
  split
  · split
    · exact keepsStops_reject s _ _ _
    · exact keepsStops_releaseSlot _
  · split
    · exact keepsStops_reject s _ _ _
    · exact keepsStops_releaseSlot _
  · exact keepsStops_reject s _ _ _

theorem keepsStops_carryStopsApply (registration : Nat) : KeepsStops s (carryStopsApply registration s) := by
  unfold carryStopsApply
  split
  · exact keepsStops_reject s _ _ _
  · split
    · exact keepsStops_reject s _ _ _
    · exact keepsStops_act_reply (stopsKept_requestApply _ _ _ _) _ _

/-- What carrying a request out does to the stop records: only DIVISION PUT and DIVISION CLEAR change which there are. -/
theorem keepsStops_carryOut (c : Instr) (s : State) : KeepsStops s (carryOut c s) := by
  cases c with
  | divisionPut division rec =>
    exact keepsStops_tested _ _ ((keepsStops_describe s _ _).trans (keepsStops_replyClosing _ _ _))
  | divisionClear division =>
    have cleared : KeepsStops s ((s.describe division none).clearVerdict division) :=
      (keepsStops_describe s division none).trans (.same rfl rfl)
    exact keepsStops_tested _ _ (cleared.trans (keepsStops_replyClosing _ _ _))
  | survey => exact keepsStops_tested _ _ (keepsStops_takeSurvey s)
  | micPut => exact keepsStops_tested _ _ ((keepsStops_setListening s _).trans (.same rfl rfl))
  | matchPut mode mergeWindow =>
    simp only [carryOut, carryMatchPut]
    split
    · exact keepsStops_reject s _ _ _
    · exact (keepsStops_putMatch s _ _).trans (.same rfl rfl)
  | trackPut params => exact keepsStops_act_reply (.of_stops (putTrack_stops _ _ _)) _ _
  | play index startMode =>
    refine keepsStops_tested _ _ ?_
    unfold State.playItem
    split
    · exact .refl s
    · exact keepsStops_act_reply (stopsKept_startItem _ _ _ _ _ _ _) _ _
  | stopItem =>
    simp only [carryOut, carryStopItem]
    split
    · exact keepsStops_reject s _ _ _
    · exact keepsStops_act_reply (.of_stops (pressStop_stops _)) _ _
  | cancelAll => exact keepsStops_act_reply (.of_stops (cancelAll_stops _)) _ _
  | readerPut horizon => exact keepsStops_act_reply (.of_stops (putHorizon_stops _ _ _)) _ _
  | keyRelease which => exact keepsStops_carryKeyRelease which
  | stopsApply registration => exact keepsStops_carryStopsApply registration
  | eventsAck | eventsMask | eventsForce | tuneOpen | itemPut | itemReplace | itemRemove | regPut | keySound =>
    exact keepsStops_tested _ _ (.same rfl rfl)
  | countersRead | organPut | divisionQuery | tuneData | tuneAbort | tuneRetire | tuneQuery | itemQuery | regQuery
  | micQuery | trackQuery | keyLookup | keyList | keyHold | stopsQuery | swellPut =>
    simp only [carryOut, carryCountersRead, carryOrganPut, carryDivisionQuery, carryTuneData, carryTuneAbort,
      carryTuneRetire, carryTuneQuery, carryItemQuery, carryRegQuery, carryMicQuery, carryTrackQuery, carryKeyLookup,
      State.answerLookup, carryKeyList, carryKeyHold, carryStopsQuery, carrySwellPut]
    repeat' split
    all_goals exact .same rfl rfl
  | _ => exact .same rfl rfl

end

/-! ### The line -/

section
variable (s : State)

theorem keepsStops_whileBusy (a : Answer) (counts : Bool) : KeepsStops s (s.whileBusy a counts) := by
  unfold State.whileBusy
  split
  · exact .same rfl rfl
  · cases counts <;> exact .same rfl rfl

theorem keepsStops_hunt : KeepsStops s s.hunt := .same rfl rfl

theorem keepsStops_refuseFrame (code : Nat) (r : Reason) (d : Nat) : KeepsStops s (s.refuseFrame code r d) := by
  unfold State.refuseFrame
  simp only
  split
  · exact (keepsStops_hunt s).trans (keepsStops_whileBusy _ _ _)
  · split <;> exact .same rfl rfl

theorem keepsStops_acceptFrame (code : Nat) (c : Instr) : KeepsStops s (s.acceptFrame code (carryOut c)) := by
  unfold State.acceptFrame
  split
  · exact (keepsStops_hunt s).trans (keepsStops_whileBusy _ _ _)
  · exact (keepsStops_hunt s).trans (keepsStops_carryOut c _)

theorem keepsStops_takeFrame (f : RawFrame) : KeepsStops s (s.takeFrame f) := by
  unfold State.takeFrame
  split
  · exact keepsStops_refuseFrame s _ _ _
  · exact keepsStops_acceptFrame s _ _
  · exact .refl s

theorem keepsStops_receive (b : Byte) : KeepsStops s (s.receive b) := by
  unfold State.receive
  split
  · split <;> exact .same rfl rfl
  · unfold State.lengthByte
    split
    · exact .same rfl rfl
    · exact keepsStops_refuseFrame s _ _ _
  · exact .same rfl rfl
  · exact keepsStops_takeFrame s _

theorem keepsStops_arrive {complete : State → State} (h : ∀ t, KeepsStops t (complete t)) (f : RawFrame) :
    KeepsStops s (s.arrive f complete) := by
  unfold State.arrive
  split
  · exact h s
  · exact State.receiveAll_induct (P := KeepsStops s) (fun b t h => h.trans (keepsStops_receive t b)) _ (.refl s)

theorem keepsStops_request (c : Instr) : KeepsStops s (s.request c (carryOut c)) := by
  unfold State.request
  split
  · exact .refl s
  · split
    · exact .refl s
    · exact keepsStops_arrive s (fun t => keepsStops_acceptFrame t _ c) _

/-- The end of an answer; RESET's reply is followed by a reset that forms the stop records anew. -/
theorem keepsStops_sent (rateHigh : Bool) : KeepsStops s (s.sent rateHigh) := by
  unfold State.sent
  split
  · exact .refl s
  · split
    · exact KeepsStops.trans (fun _ => stopsOk_preparedReset s .request) (.same rfl rfl)
    · split <;> exact .same rfl rfl

end

/-! ### Commands -/

/-- A command answers with a next state that keeps the stop records. -/
def CommandKeepsStops (c : Instr) (s : State) : Prop := ∃ t, exec c s = .next t ∧ KeepsStops s t

section
variable {c : Instr} {s : State}

theorem commandKeepsStops_event {f : State → State} (hc : exec c s = .next (s.event f)) (h : KeepsStops s (f s)) :
    CommandKeepsStops c s := by
  refine ⟨_, hc, ?_⟩
  unfold State.event
  split
  · exact .refl s
  · exact h

/-- An event with one guard. -/
theorem commandKeepsStops_guarded {b : State → Prop} [DecidablePred b] {f : State → State}
    (hc : exec c s = .next (s.event (fun s => if b s then f s else s))) (h : KeepsStops s (f s)) :
    CommandKeepsStops c s := by
  refine commandKeepsStops_event hc ?_
  show KeepsStops s (if b s then f s else s)
  split
  · exact h
  · exact .refl s

theorem commandKeepsStops_act {f : Env → Play → Play} (hc : exec c s = .next (s.event (fun s => s.act f)))
    (h : StopsKept s.play (f s.toEnv s.play)) : CommandKeepsStops c s :=
  commandKeepsStops_event hc (keepsStops_act h)

/-- An event whose effect leaves the stops alone. -/
theorem commandKeepsStops_stops {f : Env → Play → Play} (hc : exec c s = .next (s.event (fun s => s.act f)))
    (h : (f s.toEnv s.play).stops = s.play.stops) : CommandKeepsStops c s :=
  commandKeepsStops_act hc (.of_stops h)

theorem stops_guarded {p q : Play} {b : Bool} (h : q.stops = p.stops) : (if b then q else p).stops = p.stops := by
  cases b
  · rfl
  · exact h

end

/-- What every command does to the stop records. -/
theorem commandKeepsStops (c : Instr) (s : State) : CommandKeepsStops c s := by
  cases c with
  | powerReset => exact ⟨_, rfl, fun _ => stopsOk_powerUp _ _⟩
  | pinReset => exact ⟨_, rfl, fun _ => stopsOk_preparedReset s .pin⟩
  | resetEnd r =>
    refine ⟨_, rfl, ?_⟩
    split <;> exact .same rfl rfl
  | partialFrameByte c =>
    refine commandKeepsStops_event rfl ?_
    unfold State.receiveCharacter
    split
    · exact keepsStops_receive s _
    · exact .refl s
  | frameRejected f =>
    refine commandKeepsStops_event rfl ?_
    split
    · exact keepsStops_arrive s (fun t => keepsStops_refuseFrame t _ _ _) f
    · exact .refl s
  | frameWhileBusy f =>
    exact commandKeepsStops_guarded rfl (keepsStops_arrive s (fun t => keepsStops_takeFrame t f) f)
  | answerSent r => exact commandKeepsStops_event rfl (keepsStops_sent s r)
  | closingSequenceComplete => exact commandKeepsStops_event rfl (keepsStops_closingDone s)
  | resetClearingShiftComplete => exact commandKeepsStops_event rfl (keepsStops_resetShiftDone s)
  | scanComplete returned sense =>
    refine commandKeepsStops_event rfl ?_
    split
    · exact keepsStops_completeScan s _ _ _
    · exact .refl s
  | validationSuccess | validationFailure =>
    refine commandKeepsStops_event rfl ?_
    repeat' split
    all_goals exact .same rfl rfl
  | samplePairComplete input low high =>
    refine commandKeepsStops_event rfl ?_
    split
    · exact keepsStops_takePair s _ _ _ _
    · exact .refl s
  | inputLost input => exact commandKeepsStops_guarded rfl ((keepsStops_setListening _ _).after rfl rfl)
  | frameGapExpiry | surveyReturn | surveyNoReturn | scanStart | lastOnsetExpiry | lastReleaseExpiry
  | lastMatchedAnchorExpiry | referenceTimeExpiry | lastCueExpiry | applyTickExpiry | swellUpdate | swellPeriodStart =>
    exact commandKeepsStops_guarded rfl (.same rfl rfl)
  | matchedTimeExpiry i => exact commandKeepsStops_event rfl (.same rfl (forgetMatchedTime_stops _ i _))
  | cueContactClosed b => exact commandKeepsStops_event rfl (.same rfl (setCue_stops _ b _))
  | cueContactOpened b => exact commandKeepsStops_event rfl (.same rfl (setCue_stops _ b _))
  | candidateExpiry c => exact commandKeepsStops_stops rfl (expireCandidate_stops _ _ c)
  | windowCloseExpiry => exact commandKeepsStops_stops rfl (takeWindowClose_stops _ _)
  | rebase => exact commandKeepsStops_stops rfl (stops_guarded (rebaseNow_stops _ _))
  | fermataExpiry => exact commandKeepsStops_stops rfl (takeFermata_stops _ _)
  | maximumEndExpiry => exact commandKeepsStops_stops rfl (stops_guarded (endHold_stops _ _))
  | gapEnd => exact commandKeepsStops_stops rfl (stops_guarded (startSection_stops _ _))
  | schedulingExpiry => exact commandKeepsStops_stops rfl (schedule_stops _ _)
  | onTimeExpiry i => exact commandKeepsStops_stops rfl (takeOnTime_stops _ i _)
  | offTimeExpiry i => exact commandKeepsStops_stops rfl (takeOffTime_stops _ i _)
  | deadlineExpiry i => exact commandKeepsStops_stops rfl (takeDeadline_stops _ i _)
  | cueDebounceExpiry b => exact commandKeepsStops_act rfl (stopsKept_debounce _ _ b)
  | pulseEndExpiry d i => exact commandKeepsStops_act rfl (stopsKept_endPulse _ _ d i)
  | stopTimeoutExpiry d i => exact commandKeepsStops_act rfl (stopsKept_timeOutStop _ _ d i)
  | _ => exact ⟨_, exec_request rfl s, keepsStops_request s _⟩

theorem keepsStops_idle (s : State) : KeepsStops s s.idle := by
  unfold State.idle
  split
  · exact .refl s
  · split
    · exact keepsStops_act (.refl _)
    · split <;> exact .same rfl rfl

/-- Settles O19: the idle step, and the command that a step takes, keep the stop records. -/
theorem stepKeepsStopRecords : Obligations.StepKeepsStopRecords := by
  intro s t hs h
  cases hp : s.pending with
  | nil =>
    simp only [step, hp] at h
    cases h
    exact keepsStops_idle s hs
  | cons c rest =>
    rw [step_cons c rest s hp] at h
    obtain ⟨u, hu, hkeeps⟩ := commandKeepsStops c { s with pending := rest }
    rw [hu] at h
    cases h
    exact hkeeps hs

end Sys2Proof.Machine
end

section
/-! SUPPORT (O5, O7, O10 to O13). The line (R194 to R198): when a frame completes, what its end leaves, and a request or
an event of the line in one equation each. -/

namespace Sys2Proof.Machine

/-! ### Frames that complete (R195) -/

/-- The model's test for a frame that completes is the statements' own. -/
theorem Receiver.begins_iff {r : Receiver} {f : RawFrame} : r.begins f = true ↔ FrameCompletes r f := by
  unfold Receiver.begins FrameCompletes
  cases r.state <;> simp

theorem Receiver.begins_eq_false {r : Receiver} {f : RawFrame} (h : ¬ FrameCompletes r f) : r.begins f = false :=
  Bool.eq_false_iff.mpr (mt Receiver.begins_iff.mp h)

theorem receiveAll_eq_foldl (bs : List Byte) (s : State) :
    State.receiveAll bs s = bs.foldl (fun t b => t.receive b) s := by
  induction bs generalizing s with
  | nil => rfl
  | cons b bs ih => exact ih (s.receive b)

section
variable {s : State} {f : RawFrame} {complete : State → State}

theorem State.arrive_completes (h : FrameCompletes s.link.receiver f) : s.arrive f complete = complete s :=
  State.arrive_begins (Receiver.begins_iff.mpr h) complete

/-- A frame that finds the receiver keeping part of another is taken byte by byte (log 3). -/
theorem State.arrive_bytes (h : ¬ FrameCompletes s.link.receiver f) :
    s.arrive f complete = f.onLine.foldl (fun t b => t.receive b) s := by
  rw [State.arrive, Receiver.begins_eq_false h, ← receiveAll_eq_foldl]
  rfl

end

/-! ### Requests and events of the line -/

section
variable {c : Instr} {code : Nat} {body : List Byte} {f : RawFrame} {s : State}

/-- A request whose frame completes is accepted (R197). -/
theorem exec_request_completes (hw : writeRequest c = some (code, body)) (hr : s.inReset = false)
    (h : FrameCompletes s.link.receiver (frameOf code body)) :
    exec c s = .next (s.acceptFrame code (carryOut c)) := by
  rw [exec_request hw, State.request_begins hr hw (Receiver.begins_iff.mpr h)]

/-- A request on a part that is ready is carried out. -/
theorem exec_request_ready (hw : writeRequest c = some (code, body)) (h : Ready s) :
    exec c s = .next (carryOut c s.hunt) := by
  rw [exec_request hw, State.request_ready h hw]

/-- A request whose frame finds the receiver keeping part of another (log 3). -/
theorem exec_request_bytes (hw : writeRequest c = some (code, body)) (hr : s.inReset = false)
    (h : ¬ FrameCompletes s.link.receiver (frameOf code body)) :
    exec c s = .next ((frameOf code body).onLine.foldl (fun t b => t.receive b) s) := by
  rw [exec_request hw, State.request, hr, hw, ← State.arrive_bytes h]
  rfl

theorem exec_frameRejected {reason : Reason} {detail : Nat} (hr : s.inReset = false)
    (h : refusalOf f = some (reason, detail)) :
    exec (.frameRejected f) s = .next (s.arrive f (fun t => t.refuseFrame f.code reason detail)) := by
  have hc : exec (.frameRejected f) s = .next (s.event (fun t => match refusalOf f with
    | some (reason, detail) => t.arrive f (fun u => u.refuseFrame f.code reason detail)
    | none => t)) := rfl
  rw [hc, State.event_awake hr, h]

/-- A frame that passes is no FRAME_REJECTED (R196). -/
theorem exec_frameRejected_passing (h : refusalOf f = none) : exec (.frameRejected f) s = .next s := by
  have hc : exec (.frameRejected f) s = .next (s.event (fun t => match refusalOf f with
    | some (reason, detail) => t.arrive f (fun u => u.refuseFrame f.code reason detail)
    | none => t)) := rfl
  rw [hc, State.event, h]
  exact congrArg _ (ite_self s)

theorem exec_frameWhileBusy (hr : s.inReset = false) (hb : s.link.busy = true) :
    exec (.frameWhileBusy f) s = .next (s.arrive f (fun t => t.takeFrame f)) := by
  have hc : exec (.frameWhileBusy f) s =
    .next (s.event (fun t => if t.link.busy then t.arrive f (fun u => u.takeFrame f) else t)) := rfl
  rw [hc, State.event_awake hr, hb]
  rfl

/-- On a free link a frame is no FRAME_WHILE_BUSY (R198). -/
theorem exec_frameWhileBusy_free (hb : s.link.busy = false) : exec (.frameWhileBusy f) s = .next s := by
  have hc : exec (.frameWhileBusy f) s =
    .next (s.event (fun t => if t.link.busy then t.arrive f (fun u => u.takeFrame f) else t)) := rfl
  rw [hc, State.event, hb]
  exact congrArg _ (ite_self s)

theorem exec_partialFrameByte (hr : s.inReset = false) (b : Byte) :
    exec (.partialFrameByte (goodCharacter b)) s = .next (s.receive b) :=
  congrArg _ (State.event_awake hr _)

end

/-! ### The end of a frame (R196 to R198) -/

section
variable {s : State} {f : RawFrame} {a : Answer} {counts : Bool} {code detail : Nat} {reason : Reason}
  {carry : State → State}

/-- An answer becomes the waiting one, and the frame counts when it is answered BAD_FRAME. -/
theorem State.whileBusy_next (h : s.link.waiting = none) : s.whileBusy a counts = { s with
    link := { s.link with waiting := some a }, play := if counts then s.play.count .badFrame else s.play } := by
  rw [State.whileBusy, h]
  cases counts <;> rfl

theorem State.whileBusy_discarded (h : s.link.waiting.isSome = true) : s.whileBusy a counts = s.countBadFrame := by
  obtain ⟨b, hb⟩ := Option.isSome_iff_exists.mp h
  rw [State.whileBusy, hb]

theorem State.refuseFrame_free (h : s.link.busy = false) : s.refuseFrame code reason detail = { s with
    link := rejectLink s code reason detail
    play := if reason = .badFrame then s.play.count .badFrame else s.play } := by
  have free : s.refuseFrame code reason detail =
      if decide (reason = .badFrame) then (s.hunt.reject code reason detail).countBadFrame
      else s.hunt.reject code reason detail := if_neg (ne_true_of_eq_false h)
  rw [free]
  by_cases hr : reason = .badFrame
  · rw [if_pos hr, hr]
    rfl
  · rw [if_neg hr, decide_eq_false hr]
    rfl

theorem State.refuseFrame_busy (h : s.link.busy = true) (hw : s.link.waiting = none) :
    s.refuseFrame code reason detail = { s with
      link := { s.link with receiver := .hunting, waiting := some (rejectAnswer code reason detail) }
      play := if reason = .badFrame then s.play.count .badFrame else s.play } := by
  have kept : s.refuseFrame code reason detail = s.hunt.whileBusy (rejectAnswer code reason detail)
      (decide (reason = .badFrame)) := if_pos h
  rw [kept, State.whileBusy_next (s := s.hunt) hw]
  simp only [decide_eq_true_eq]
  rfl

theorem State.refuseFrame_discarded (h : s.link.busy = true) (hw : s.link.waiting.isSome = true) :
    s.refuseFrame code reason detail =
      { s with link := { s.link with receiver := .hunting }, play := s.play.count .badFrame } :=
  (if_pos h).trans (State.whileBusy_discarded (s := s.hunt) hw)

theorem State.acceptFrame_free (h : s.link.busy = false) : s.acceptFrame code carry = carry s.hunt :=
  if_neg (ne_true_of_eq_false h)

theorem State.acceptFrame_busy (h : s.link.busy = true) (hw : s.link.waiting = none) :
    s.acceptFrame code carry = { s with
      link := { s.link with receiver := .hunting, waiting := some (rejectAnswer code .busy 0) } } :=
  (if_pos h).trans (State.whileBusy_next (s := s.hunt) hw)

theorem State.acceptFrame_discarded (h : s.link.busy = true) (hw : s.link.waiting.isSome = true) :
    s.acceptFrame code carry =
      { s with link := { s.link with receiver := .hunting }, play := s.play.count .badFrame } :=
  (if_pos h).trans (State.whileBusy_discarded (s := s.hunt) hw)

/-- A complete frame that fails is refused (R196). -/
theorem State.takeFrame_refused (h : refusalOf f = some (reason, detail)) :
    s.takeFrame f = s.refuseFrame f.code reason detail := by
  rw [State.takeFrame, h]

theorem refusalOf_request {c : Instr} (h : examine f = .request c) : refusalOf f = none := by
  rw [refusalOf, h]

/-- A frame that passes carries a request (R196). -/
theorem examine_of_passing (h : refusalOf f = none) : ∃ c, examine f = .request c := by
  unfold refusalOf at h
  split at h
  · cases h
  · cases h
  · cases h
  · exact ⟨_, ‹_›⟩

/-- A complete frame that passes is accepted (R197). -/
theorem State.takeFrame_request {c : Instr} (h : examine f = .request c) :
    s.takeFrame f = s.acceptFrame f.code (carryOut c) := by
  rw [State.takeFrame, refusalOf_request h, h]

end

end Sys2Proof.Machine
end

section
/-! PROOF (O4). While RESETn is low every command but a reset and its end leaves the part as it was (log 7). -/

namespace Sys2Proof.Machine

/-- An event with RESETn low. -/
theorem exec_event_inReset {c : Instr} {s : State} {f : State → State} (hc : exec c s = .next (s.event f))
    (h : s.inReset = true) : exec c s = .next s := by
  rw [hc, State.event_inReset h]

/-- A request with RESETn low. -/
theorem exec_request_inReset {c : Instr} {code : Nat} {body : List Byte} {s : State}
    (hw : writeRequest c = some (code, body)) (h : s.inReset = true) : exec c s = .next s := by
  rw [exec_request hw, State.request_inReset h]

/-- Settles O4: a command that is no reset and no reset's end is an event or a request. -/
theorem commandsWaitForResetEnd : Obligations.CommandsWaitForResetEnd := by
  intro c s h hpower hpin hend
  cases c with
  | powerReset => exact absurd rfl hpower
  | pinReset => exact absurd rfl hpin
  | resetEnd r => exact absurd rfl (hend r)
  | partialFrameByte | frameGapExpiry | frameRejected | frameWhileBusy | answerSent | closingSequenceComplete
  | resetClearingShiftComplete | surveyReturn | surveyNoReturn | scanStart | scanComplete | validationSuccess
  | validationFailure | samplePairComplete | inputLost | lastOnsetExpiry | lastReleaseExpiry | candidateExpiry
  | windowCloseExpiry | matchedTimeExpiry | rebase | fermataExpiry | maximumEndExpiry | lastMatchedAnchorExpiry
  | referenceTimeExpiry | gapEnd | schedulingExpiry | cueContactClosed | cueContactOpened | cueDebounceExpiry
  | lastCueExpiry | onTimeExpiry | offTimeExpiry | deadlineExpiry | pulseEndExpiry | stopTimeoutExpiry
  | applyTickExpiry | swellUpdate | swellPeriodStart => exact exec_event_inReset rfl h
  | _ => exact exec_request_inReset rfl h

end Sys2Proof.Machine
end

section
/-! PROOF (O5). The answers of frames, on a free link and on a busy one (R196, R198). -/

namespace Sys2Proof.Machine

section
variable {s : State} {f : RawFrame} {c : Instr} {code detail : Nat} {reason : Reason} {body : List Byte}

/-- R198: a request on a busy link. -/
theorem requestOnBusyLink (hw : writeRequest c = some (code, body)) (hr : s.inReset = false)
    (hb : s.link.busy = true) (hf : FrameCompletes s.link.receiver (frameOf code body)) :
    (s.link.waiting = none → exec c s = .next { s with link := { s.link with
      receiver := .hunting, waiting := some (rejectAnswer code .busy 0) } }) ∧
    (s.link.waiting.isSome = true → exec c s = .next { s with
      link := { s.link with receiver := .hunting }, play := s.play.count .badFrame }) := by
  rw [exec_request_completes hw hr hf]
  exact ⟨fun hw => congrArg _ (State.acceptFrame_busy hb hw), fun hw => congrArg _ (State.acceptFrame_discarded hb hw)⟩

/-- A failing frame that completes is refused, by either command on a busy link. -/
theorem exec_failingFrame (hr : s.inReset = false) (hf : FrameCompletes s.link.receiver f)
    (h : refusalOf f = some (reason, detail)) :
    c = .frameRejected f ∨ c = .frameWhileBusy f ∧ s.link.busy = true →
      exec c s = .next (s.refuseFrame f.code reason detail) := by
  rintro (rfl | ⟨rfl, hb⟩)
  · rw [exec_frameRejected hr h, State.arrive_completes hf]
  · rw [exec_frameWhileBusy hr hb, State.arrive_completes hf, State.takeFrame_refused h]

/-- R198: a passing frame on a busy link. -/
theorem passingFrameOnBusyLink (hr : s.inReset = false) (hf : FrameCompletes s.link.receiver f)
    (h : refusalOf f = none) (hb : s.link.busy = true) :
    (s.link.waiting = none → exec (.frameWhileBusy f) s = .next { s with link := { s.link with
      receiver := .hunting, waiting := some (rejectAnswer f.code .busy 0) } }) ∧
    (s.link.waiting.isSome = true → exec (.frameWhileBusy f) s = .next { s with
      link := { s.link with receiver := .hunting }, play := s.play.count .badFrame }) := by
  obtain ⟨c, hc⟩ := examine_of_passing h
  rw [exec_frameWhileBusy hr hb, State.arrive_completes hf, State.takeFrame_request hc]
  exact ⟨fun hw => congrArg _ (State.acceptFrame_busy hb hw), fun hw => congrArg _ (State.acceptFrame_discarded hb hw)⟩

/-- R198: the last byte of an answer that is no RESET's reply. -/
theorem exec_answerSent (hr : s.inReset = false) (hp : s.link.resetPending = false)
    (ha : s.link.answer.isSome = true) (rateHigh : Bool) :
    exec (.answerSent rateHigh) s = .next { s with link := match s.link.waiting with
      | some a => { s.link with answer := some a, waiting := none }
      | none => { s.link with answer := none, busy := false } } := by
  have hc : exec (.answerSent rateHigh) s = .next (s.sent rateHigh) := congrArg _ (State.event_awake hr _)
  obtain ⟨a, ha⟩ := Option.isSome_iff_exists.mp ha
  rw [hc, State.sent, ha, hp]
  cases s.link.waiting <;> rfl

end

/-- Settles O5: a frame that completes is accepted or refused, and the link says what becomes of the answer. -/
theorem linkAnswersFramesInTurn : Obligations.LinkAnswersFramesInTurn := by
  refine ⟨fun c code body s hw hr hb hf => requestOnBusyLink hw hr hb hf,
    fun f s reason detail hr hf h => ⟨fun hb => ?_, fun hb hw c hc => ?_, fun hb hw c hc => ?_⟩,
    fun f s hr hf h hb => passingFrameOnBusyLink hr hf h hb,
    fun f s => ⟨exec_frameRejected_passing, exec_frameWhileBusy_free⟩,
    fun s r hr hp ha => exec_answerSent hr hp ha r⟩
  · rw [exec_failingFrame hr hf h (.inl rfl), State.refuseFrame_free hb]
  · rw [exec_failingFrame hr hf h (hc.imp_right fun hc => ⟨hc, hb⟩), State.refuseFrame_busy hb hw]
  · rw [exec_failingFrame hr hf h (hc.imp_right fun hc => ⟨hc, hb⟩), State.refuseFrame_discarded hb hw]

end Sys2Proof.Machine
end

section
/-! SUPPORT (O6). What is written into a body is read back from it (R199): numbers, presence bits and lists. -/

namespace Sys2Proof

/-! ### Numbers -/

theorem fitsBytes_iff {k n : Nat} : fitsBytes k n = true ↔ n < 256 ^ k := decide_eq_true_iff

theorem takeNumFrom_putNum (k acc n : Nat) (rest : List Byte) :
    takeNumFrom k acc (putNum k n ++ rest) = some (acc * 256 ^ k + n % 256 ^ k, rest) := by
  induction k generalizing acc with
  | zero => simp [takeNumFrom, putNum, Nat.mod_one]
  | succ k ih =>
    rw [putNum, List.cons_append, takeNumFrom, ih, BitVec.toNat_ofNat, Nat.mod_pow_succ (x := n) (b := 256), Nat.pow_succ']
    congr 2
    ring

/-- Reading what was put gives the value back, whatever bytes follow. -/
def Reads {α : Type} (one : List Byte → Option (α × List Byte)) (bytes : List Byte) (x : α) : Prop :=
  ∀ rest, one (bytes ++ rest) = some (x, rest)

/-- The value goes on to the reading of the bytes that follow. -/
theorem Reads.bind {α β : Type} {one : List Byte → Option (α × List Byte)} {bytes rest : List Byte} {x : α}
    (h : Reads one bytes x) (f : α × List Byte → Option β) : (one (bytes ++ rest) >>= f) = f (x, rest) := by
  rw [h rest]
  rfl

theorem reads_putNum {k n : Nat} (h : fitsBytes k n = true) : Reads (takeNum k) (putNum k n) n := by
  intro rest
  rw [takeNum, takeNumFrom_putNum, Nat.mod_eq_of_lt (fitsBytes_iff.mp h), Nat.zero_mul, Nat.zero_add]

@[simp] theorem takeNum_putNum_append {k n : Nat} (h : fitsBytes k n = true) (rest : List Byte) :
    takeNum k (putNum k n ++ rest) = some (n, rest) := reads_putNum h rest

/-- The last number of a body. -/
@[simp] theorem takeNum_putNum {k n : Nat} (h : fitsBytes k n = true) : takeNum k (putNum k n) = some (n, []) := by
  simpa using reads_putNum h []

theorem reads_byte (b : Byte) : Reads (takeNum 1) [b] b.toNat := by
  intro rest
  simp [takeNum, takeNumFrom]

/-- A byte is a number of one byte. -/
@[simp] theorem takeNum_one_cons (b : Byte) (rest : List Byte) : takeNum 1 (b :: rest) = some (b.toNat, rest) :=
  reads_byte b rest

@[simp] theorem ended_nil {α : Type} (x : α) : ended [] x = some x := rfl

/-! ### Fields that may be absent -/

theorem testBit_ofMarks (l : List Bool) (i : Nat) :
    (l.foldr (fun (b : Bool) acc => 2 * acc + b.toNat) 0).testBit i = l.getD i false := by
  induction l generalizing i with
  | nil => simp
  | cons b l ih =>
    rw [List.foldr_cons, ← Nat.bit_val]
    cases i with
    | zero => simp
    | succ i => simp [Nat.testBit_bit_succ, ih]

/-- A presence byte holds its bits in order. -/
theorem testBit_presenceByte (l : List Bool) (i : Nat) :
    (presenceByte l).toNat.testBit i = (decide (i < 8) && l.getD i false) := by
  rw [presenceByte, BitVec.toNat_ofNat, Nat.testBit_mod_two_pow, testBit_ofMarks]

/-- A field that may be absent is read back by its bit of the presence byte. -/
@[simp] theorem givenBy_presenceByte {l : List Bool} {i : Nat} {o : Option Nat}
    (h : (decide (i < 8) && l.getD i false) = o.isSome) : givenBy (presenceByte l).toNat i (sentAs o) = o := by
  rw [givenBy, testBit_presenceByte, h]
  cases o <;> rfl

@[simp] theorem fitsBytes_sentAs {k : Nat} {o : Option Nat} (h : optFitsBytes k o = true) :
    fitsBytes k (sentAs o) = true := by
  cases o with
  | none => exact fitsBytes_iff.mpr (Nat.pow_pos (by decide))
  | some n => exact h

/-- The starting index, sent or left out. -/
@[simp] theorem takeStart_putStart {st : Option Nat} (h : optFitsBytes 1 st = true) :
    takeStart (putStart st) = some st := by
  cases st with
  | none => rfl
  | some n =>
    have hn : n < 256 := fitsBytes_iff.mp h
    simp [takeStart, putStart, putNum, Nat.mod_eq_of_lt hn]

/-! ### Lists of entries -/

section
variable {α : Type} {one : List Byte → Option (α × List Byte)} {put : α → List Byte} {l : List α}

theorem reads_flatMap (h : ∀ a ∈ l, Reads one (put a) a) : Reads (takeMany one l.length) (l.flatMap put) l := by
  intro rest
  induction l with
  | nil => rfl
  | cons a l ih =>
    have ha := h a List.mem_cons_self (l.flatMap put ++ rest)
    have hl := ih (fun b hb => h b (List.mem_cons_of_mem a hb))
    simp [takeMany, ha, hl]

theorem reads_putList (hlen : fitsBytes 1 l.length = true) (h : ∀ a ∈ l, Reads one (put a) a) :
    Reads (takeList one) (putList put l) l := by
  intro rest
  rw [takeList, putList, List.append_assoc, takeNum_putNum_append hlen]
  exact reads_flatMap h rest

end

theorem reads_putStop {w : StopWiring} (h : w.wf = true) : Reads takeStop (putStop w) w := by
  simp only [StopWiring.wf, Bool.and_eq_true, decide_eq_true_eq] at h
  obtain ⟨⟨hon, hoff⟩, hsense⟩ := h
  have hfits : fitsBytes 3 (w.onMagnet * 32768 + w.offMagnet * 64 + w.sense) = true :=
    fitsBytes_iff.mpr (by omega)
  intro rest
  have h1 : (w.onMagnet * 32768 + w.offMagnet * 64 + w.sense) / 32768 = w.onMagnet := by omega
  have h2 : (w.onMagnet * 32768 + w.offMagnet * 64 + w.sense) / 64 % 512 = w.offMagnet := by omega
  have h3 : (w.onMagnet * 32768 + w.offMagnet * 64 + w.sense) % 64 = w.sense := by omega
  simp [takeStop, putStop, hfits, h1, h2, h3]

theorem reads_putRoute {r : Route} (h : r.wf = true) : Reads takeRoute (putRoute r) r := by
  simp only [Route.wf, Bool.and_eq_true, decide_eq_true_eq] at h
  obtain ⟨⟨hd, hlow⟩, hhigh⟩ := h
  have hshift : (putSigned r.shift).toInt = r.shift :=
    BitVec.toInt_ofInt_eq_self (by decide) (by simpa using hlow) (by simpa using hhigh)
  intro rest
  simp [takeRoute, putRoute, hd, hshift]

theorem reads_putDivisionEntry {e : DivisionEntry} (h : e.wf = true) : Reads takeDivisionEntry (putDivisionEntry e) e := by
  simp only [DivisionEntry.wf, Bool.and_eq_true] at h
  have hdrawn : fitsBytes 2 e.drawn.toNat = true := fitsBytes_iff.mpr e.drawn.isLt
  intro rest
  simp [takeDivisionEntry, putDivisionEntry, hdrawn, h.1, h.2]

end Sys2Proof
end

section
/-! PROOF (O6). A well-formed request is read back from its frame (R196, R199, R206): body by body, and then through
the examination. -/

namespace Sys2Proof

/-! ### Bodies of plain numbers -/

section
variable {i j k l m n : Nat}

theorem takeOne_putNum (make : Nat → Instr) (h : fitsBytes k n = true) : takeOne k make (putNum k n) = some (make n) := by
  simp [takeOne, h]

theorem takeTwo_putNum (make : Nat → Nat → Instr) (hm : fitsBytes j m = true) (hn : fitsBytes k n = true) :
    takeTwo j k make (putNum j m ++ putNum k n) = some (make m n) := by
  simp [takeTwo, hm, hn]

theorem takeThree_putNum (make : Nat → Nat → Nat → Instr) (hl : fitsBytes i l = true) (hm : fitsBytes j m = true)
    (hn : fitsBytes k n = true) :
    takeThree i j k make (putNum i l ++ (putNum j m ++ putNum k n)) = some (make l m n) := by
  simp [takeThree, hl, hm, hn]

/-- A latch set is three bytes. -/
theorem takeOne_putSet (make : BitVec 24 → Instr) (set : BitVec 24) :
    takeOne 3 (fun n => make (BitVec.ofNat 24 n)) (putNum 3 set.toNat) = some (make set) := by
  rw [takeOne_putNum _ (fitsBytes_iff.mpr set.isLt), BitVec.ofNat_toNat, BitVec.setWidth_eq]

theorem takeStopsQuery_put {st : Option Nat} (hn : fitsBytes 1 n = true) (hst : optFitsBytes 1 st = true) :
    takeStopsQuery (putNum 1 n ++ putStart st) = some (.stopsQuery n st) := by
  simp [takeStopsQuery, hn, hst]

/-- A starting index stands with part 3 alone (log 47). -/
theorem takeTrackQuery_put {st : Option Nat} (hn : fitsBytes 1 n = true) (hst : optFitsBytes 1 st = true)
    (h : n = 3 ∨ st = none) : takeTrackQuery (putNum 1 n ++ putStart st) = some (.trackQuery n st) := by
  simp [takeTrackQuery, hn, hst, h]

end

/-! ### Bodies of records -/

theorem takeDivisionArg_put {d : Nat} {a : DivisionArg} (hd : fitsBytes 1 d = true) (h : a.wf = true) :
    takeDivisionArg (putDivisionArg d a) = some (.divisionPut d a) := by
  simp only [DivisionArg.wf, Bool.and_eq_true, decide_eq_true_eq, List.all_eq_true] at h
  obtain ⟨⟨⟨⟨⟨⟨⟨⟨⟨hlow, hkeys⟩, hfirst⟩, hcount⟩, hlen⟩, hstops⟩, htransport⟩, harticulation⟩, hgap⟩, hswell⟩ := h
  have hfits : fitsBytes 1 a.stops.length = true := fitsBytes_iff.mpr (by omega)
  have hlist := reads_putList hfits (fun w hw => reads_putStop (hstops w hw))
  have hpresence (i : Nat) (o : Option Nat) (h : (decide (i < 8) && [a.transport.isSome, a.articulation.isSome,
      a.repeatGap.isSome].getD i false) = o.isSome) := givenBy_presenceByte h
  rw [putDivisionArg]
  simp only [List.append_assoc]
  simp only [takeDivisionArg, ↓(reads_byte _).bind, ↓(reads_putNum hd).bind, ↓(reads_putNum hlow).bind,
    ↓(reads_putNum hkeys).bind, ↓(reads_putNum hfirst).bind, ↓(reads_putNum hcount).bind, ↓hlist.bind,
    ↓(reads_putNum (fitsBytes_sentAs htransport)).bind, ↓(reads_putNum (fitsBytes_sentAs harticulation)).bind,
    ↓(reads_putNum (fitsBytes_sentAs hgap)).bind, takeNum_putNum hswell, Option.bind_eq_bind, Option.bind_some,
    ended_nil, hpresence 0 _ rfl, hpresence 1 _ rfl, hpresence 2 _ rfl]

theorem takeOrganArg_put {a : OrganArg} (h : a.wf = true) : takeOrganArg (putOrganArg a) = some (.organPut a) := by
  simp only [OrganArg.wf, Bool.and_eq_true] at h
  obtain ⟨⟨⟨⟨⟨hspeak, hguard⟩, hpulse⟩, htimeout⟩, hlow⟩, hhigh⟩ := h
  rw [putOrganArg]
  simp only [List.append_assoc]
  simp only [takeOrganArg, ↓(reads_putNum hspeak).bind, ↓(reads_putNum hguard).bind, ↓(reads_putNum hpulse).bind,
    ↓(reads_putNum htimeout).bind, ↓(reads_putNum hlow).bind, takeNum_putNum hhigh, Option.bind_eq_bind,
    Option.bind_some, ended_nil]

/-- The numbers that a tempo override is sent as fit their bytes. -/
theorem fitsBytes_tempo {o : Option TempoOverride} (h : (match o with | none => true | some x => x.wf) = true) :
    fitsBytes 3 (sentAs (o.map (·.period))) = true ∧ optFitsBytes 3 (o.bind (·.least)) = true ∧
    optFitsBytes 3 (o.bind (·.greatest)) = true := by
  cases o with
  | none => exact ⟨by decide, rfl, rfl⟩
  | some x =>
    simp only [TempoOverride.wf, Bool.and_eq_true] at h
    exact ⟨h.1.1, h.1.2, h.2⟩

theorem takeItemArg_put {i : Nat} {a : ItemArg} (hi : fitsBytes 1 i = true) (h : a.wf = true) :
    takeItemArg (putItemArg i a) = some (i, a) := by
  simp only [ItemArg.wf, Bool.and_eq_true, decide_eq_true_eq, List.all_eq_true] at h
  obtain ⟨⟨⟨⟨⟨⟨⟨⟨⟨⟨hid, hcount⟩, hmode⟩, hreg⟩, hlen⟩, hregs⟩, hamen⟩, htempo⟩, hend⟩, hintro⟩, hverse⟩ := h
  obtain ⟨hperiod, hleast, hgreatest⟩ := fitsBytes_tempo htempo
  have hfits : fitsBytes 1 a.verseRegs.length = true := fitsBytes_iff.mpr (by omega)
  have hlist := reads_putList hfits (fun n hn => reads_putNum (hregs n hn))
  have htempoBack : (if (itemPresence a).toNat.testBit 1 then
      some { period := sentAs (a.tempo.map (·.period)), least := a.tempo.bind (·.least)
             greatest := a.tempo.bind (·.greatest) } else none) = a.tempo := by
    rw [itemPresence, testBit_presenceByte]
    cases a.tempo <;> rfl
  have hpresence (j : Nat) (o : Option Nat) (h : (decide (j < 8) && [a.giveOutReg.isSome, a.tempo.isSome,
      (a.tempo.bind (·.least)).isSome, (a.tempo.bind (·.greatest)).isSome, a.introGap.isSome,
      a.verseGap.isSome].getD j false) = o.isSome) : givenBy (itemPresence a).toNat j (sentAs o) = o :=
    givenBy_presenceByte h
  rw [putItemArg]
  simp only [List.append_assoc]
  simp only [takeItemArg, ↓(reads_byte _).bind, ↓(reads_putNum hi).bind, ↓(reads_putNum hid).bind,
    ↓(reads_putNum hcount).bind, ↓(reads_putNum hmode).bind, ↓(reads_putNum (fitsBytes_sentAs hreg)).bind, ↓hlist.bind,
    ↓(reads_putNum hamen).bind, ↓(reads_putNum hperiod).bind, ↓(reads_putNum (fitsBytes_sentAs hleast)).bind,
    ↓(reads_putNum (fitsBytes_sentAs hgreatest)).bind, ↓(reads_putNum hend).bind,
    ↓(reads_putNum (fitsBytes_sentAs hintro)).bind, takeNum_putNum (fitsBytes_sentAs hverse), Option.bind_eq_bind,
    Option.bind_some, ended_nil, hpresence 0 _ rfl, hpresence 2 _ rfl, hpresence 3 _ rfl, hpresence 4 _ rfl,
    hpresence 5 _ rfl, htempoBack]

theorem takeRegPut_put {i : Nat} {r : Registration} (hi : fitsBytes 1 i = true) (h : r.wf = true) :
    takeRegPut (putNum 1 i ++ putRegistration r) = some (.regPut i r) := by
  simp only [Registration.wf, Bool.and_eq_true, decide_eq_true_eq, List.all_eq_true] at h
  obtain ⟨⟨⟨⟨hdlen, hd⟩, hvlen⟩, hv⟩, hcount⟩ := h
  have hshort : ∀ l ∈ r.voices, fitsBytes 1 l.length = true := fun l hl => by
    have := List.le_sum_of_mem (List.mem_map_of_mem (f := List.length) hl)
    exact fitsBytes_iff.mpr (by unfold Registration.routeCount at hcount; omega)
  have hdivisions := reads_flatMap (fun e he => reads_putDivisionEntry (hd e he))
  have hvoices := reads_flatMap (fun l hl => reads_putList (hshort l hl) (fun x hx => reads_putRoute (hv l hl x hx)))
  rw [hdlen] at hdivisions
  rw [hvlen] at hvoices
  unfold Reads at hdivisions hvoices
  have hlast := hvoices []
  rw [List.append_nil] at hlast
  simp [takeRegPut, putRegistration, hi, hdivisions, hlast]

theorem takeMicPut_put {c : Nat} {a : MicArg} (hc : fitsBytes 1 c = true) (h : a.wf = true) :
    takeMicPut (putMicArg c a) = some (.micPut c a) := by
  simp only [MicArg.wf, Bool.and_eq_true] at h
  obtain ⟨⟨⟨⟨⟨⟨henabled, hdelay⟩, hrise⟩, hfloor⟩, hrefractory⟩, hratio⟩, hconfirm⟩ := h
  rw [putMicArg]
  simp only [List.append_assoc]
  simp only [takeMicPut, ↓(reads_putNum hc).bind, ↓(reads_putNum henabled).bind, ↓(reads_putNum hdelay).bind,
    ↓(reads_putNum hrise).bind, ↓(reads_putNum hfloor).bind, ↓(reads_putNum hrefractory).bind,
    ↓(reads_putNum hratio).bind, takeNum_putNum hconfirm, Option.bind_eq_bind, Option.bind_some, ended_nil]

theorem takeTrackPut_put {a : TrackArg} (h : a.wf = true) : takeTrackPut (putTrackArg a) = some (.trackPut a) := by
  simp only [TrackArg.wf, Bool.and_eq_true] at h
  obtain ⟨⟨⟨⟨⟨⟨hphase, htempo⟩, hstep⟩, hmiss⟩, hwindow⟩, hbreath⟩, hfactor⟩ := h
  rw [putTrackArg]
  simp only [List.append_assoc]
  simp only [takeTrackPut, ↓(reads_putNum hphase).bind, ↓(reads_putNum htempo).bind, ↓(reads_putNum hstep).bind,
    ↓(reads_putNum hmiss).bind, ↓(reads_putNum hwindow).bind, ↓(reads_putNum hbreath).bind, takeNum_putNum hfactor,
    Option.bind_eq_bind, Option.bind_some, ended_nil]

theorem takeTuneQuery_put {w : TuneRef} (h : w.wf = true) : takeTuneQuery (putTuneRef w) = some (.tuneQuery w) := by
  cases w with
  | byId t => simp [takeTuneQuery, putTuneRef, show fitsBytes 2 t = true from h]
  | byEntry e => simp [takeTuneQuery, putTuneRef, show fitsBytes 1 e = true from h]
  | badForm f rest =>
    simp only [TuneRef.wf, badFormWf, Bool.and_eq_true, decide_eq_true_eq] at h
    obtain ⟨⟨h0, h1⟩, hlen⟩ := h
    exact (if_neg h0).trans ((if_neg h1).trans (if_pos hlen))

theorem takeKeyRef_put {w : KeyRef} (h : w.wf = true) : takeKeyRef (putKeyRef w) = some w := by
  cases w with
  | bySlot n => simp [takeKeyRef, putKeyRef, show fitsBytes 1 n = true from h]
  | byKey d k =>
    obtain ⟨hd, hk⟩ := (Bool.and_eq_true_iff (x := fitsBytes 1 d)).mp h
    simp [takeKeyRef, putKeyRef, hd, hk]
  | badForm f rest =>
    simp only [KeyRef.wf, badFormWf, Bool.and_eq_true, decide_eq_true_eq] at h
    obtain ⟨⟨h0, h1⟩, hlen⟩ := h
    exact (if_neg h0).trans ((if_neg h1).trans (if_pos hlen))

/-! ### Every request -/

/-- A well-formed request's body is read back as that request. -/
theorem readBody_of_written {c : Instr} {code : Nat} {body : List Byte} (h : c.wf = true)
    (hw : writeRequest c = some (code, body)) : readBody code body = some c := by
  cases c with
  | divisionPut d a =>
    obtain ⟨hd, ha⟩ := Bool.and_eq_true_iff.mp h
    cases hw; exact takeDivisionArg_put hd ha
  | organPut a => cases hw; exact takeOrganArg_put h
  | itemPut i a =>
    obtain ⟨hi, ha⟩ := Bool.and_eq_true_iff.mp h
    cases hw
    show (takeItemArg (putItemArg i a)).map (fun x => Instr.itemPut x.1 x.2) = _
    rw [takeItemArg_put hi ha, Option.map_some]
  | itemReplace i a =>
    obtain ⟨hi, ha⟩ := Bool.and_eq_true_iff.mp h
    cases hw
    show (takeItemArg (putItemArg i a)).map (fun x => Instr.itemReplace x.1 x.2) = _
    rw [takeItemArg_put hi ha, Option.map_some]
  | regPut i r =>
    obtain ⟨hi, hr⟩ := Bool.and_eq_true_iff.mp h
    cases hw; exact takeRegPut_put hi hr
  | micPut c a =>
    obtain ⟨hc, ha⟩ := Bool.and_eq_true_iff.mp h
    cases hw; exact takeMicPut_put hc ha
  | trackPut a => cases hw; exact takeTrackPut_put h
  | trackQuery p st =>
    simp only [Instr.wf, Bool.and_eq_true, Bool.or_eq_true, decide_eq_true_eq, Option.isNone_iff_eq_none] at h
    obtain ⟨⟨hp, hst⟩, hpart⟩ := h
    cases hw; exact takeTrackQuery_put hp hst hpart
  | stopsQuery d st =>
    obtain ⟨hd, hst⟩ := Bool.and_eq_true_iff.mp h
    cases hw; exact takeStopsQuery_put hd hst
  | tuneQuery w => cases hw; exact takeTuneQuery_put h
  | keyLookup w => cases hw; exact congrArg (Option.map Instr.keyLookup) (takeKeyRef_put h)
  | keyRelease w => cases hw; exact congrArg (Option.map Instr.keyRelease) (takeKeyRef_put h)
  | keyList st => cases hw; exact congrArg (Option.map Instr.keyList) (takeStart_putStart h)
  | countersRead st => cases hw; exact congrArg (Option.map Instr.countersRead) (takeStart_putStart h)
  | tuneData bs =>
    have hlen : 1 ≤ bs.length ∧ bs.length ≤ 48 := by simpa [Instr.wf] using h
    cases hw; exact if_pos hlen
  | eventsAck set | eventsMask set | eventsForce set => cases hw; exact takeOne_putSet _ set
  | divisionClear n | divisionQuery n | tuneAbort n | tuneRetire n | itemRemove n | itemQuery n | regQuery n
  | micQuery n | readerPut n | keyHold n | stopsApply n => cases hw; exact takeOne_putNum _ h
  | tuneOpen m n | matchPut m n | play m n | swellPut m n =>
    obtain ⟨hm, hn⟩ := Bool.and_eq_true_iff.mp h
    cases hw; exact takeTwo_putNum _ hm hn
  | keySound d k t =>
    obtain ⟨hdk, ht⟩ := Bool.and_eq_true_iff.mp h
    obtain ⟨hd, hk⟩ := Bool.and_eq_true_iff.mp hdk
    cases hw; exact takeThree_putNum _ hd hk ht
  | status | reset | survey | loadResult | stopItem | cancelAll | eventsRead | countersClear => cases hw; rfl
  | _ => cases hw

theorem length_putStart_le (st : Option Nat) : (putStart st).length ≤ 1 := by
  cases st <;> simp [putStart]

theorem length_putTuneRef_le {w : TuneRef} (h : w.wf = true) : (putTuneRef w).length ≤ 3 := by
  cases w with
  | byId | byEntry => simp [putTuneRef]
  | badForm f rest =>
    simp only [TuneRef.wf, badFormWf, Bool.and_eq_true, Bool.or_eq_true, decide_eq_true_eq] at h
    simp only [putTuneRef, List.length_cons]
    omega

theorem length_putKeyRef_le {w : KeyRef} (h : w.wf = true) : (putKeyRef w).length ≤ 3 := by
  cases w with
  | bySlot | byKey => simp [putKeyRef]
  | badForm f rest =>
    simp only [KeyRef.wf, badFormWf, Bool.and_eq_true, Bool.or_eq_true, decide_eq_true_eq] at h
    simp only [putKeyRef, List.length_cons]
    omega

/-- A list of entries of one size. -/
theorem length_flatMap_const {α : Type} {put : α → List Byte} {k : Nat} (h : ∀ a, (put a).length = k) (l : List α) :
    (l.flatMap put).length = k * l.length := by
  simp [List.length_flatMap, h, Nat.mul_comm]

/-- A registration of four divisions and six voices: 30 bytes, and 2 for each route (R199). -/
theorem length_putRegistration {r : Registration} (hd : r.divisions.length = 4) (hv : r.voices.length = 6) :
    (putRegistration r).length = 30 + 2 * r.routeCount := by
  have hdivisions := length_flatMap_const (put := putDivisionEntry) (k := 6) (fun e => by simp [putDivisionEntry])
    r.divisions
  have hroutes (l : List Route) : (putList putRoute l).length = 1 + 2 * l.length := by
    rw [putList, List.length_append, Machine.putNum_length, length_flatMap_const (k := 2) (fun x => by simp [putRoute])]
  have hvoices (vs : List (List Route)) :
      (vs.flatMap (putList putRoute)).length = vs.length + 2 * (vs.map List.length).sum := by
    induction vs with
    | nil => rfl
    | cons l vs ih =>
      rw [List.flatMap_cons, List.length_append, ih, hroutes, List.length_cons, List.map_cons, List.sum_cons]
      omega
  rw [putRegistration, List.length_append, hdivisions, hvoices, hd, hv, Registration.routeCount]
  omega

/-- An item: 23 bytes, and one for each verse registration (R199). -/
theorem length_putItemArg_le {i : Nat} {a : ItemArg} (h : a.wf = true) : (putItemArg i a).length ≤ 63 := by
  simp only [ItemArg.wf, Bool.and_eq_true, decide_eq_true_eq] at h
  obtain ⟨⟨⟨⟨⟨⟨⟨-, hlen⟩, -⟩, -⟩, -⟩, -⟩, -⟩, -⟩ := h
  have hregs := length_flatMap_const (put := putNum 1) (k := 1) (Machine.putNum_length 1) a.verseRegs
  simp only [putItemArg, putList, List.length_append, List.length_singleton, Machine.putNum_length, hregs]
  omega

/-- R206: a well-formed request's body fits a frame beside its code. -/
theorem length_written_le {c : Instr} {code : Nat} {body : List Byte} (h : c.wf = true)
    (hw : writeRequest c = some (code, body)) : body.length ≤ 63 := by
  cases c with
  | divisionPut d a =>
    simp only [Instr.wf, DivisionArg.wf, Bool.and_eq_true, decide_eq_true_eq] at h
    obtain ⟨-, ⟨⟨⟨⟨⟨-, hlen⟩, -⟩, -⟩, -⟩, -⟩, -⟩ := h
    cases hw
    have hstops := length_flatMap_const (put := putStop) (k := 3) (fun w => by simp [putStop]) a.stops
    simp only [putDivisionArg, putList, List.length_append, List.length_singleton, Machine.putNum_length, hstops]
    omega
  | itemPut i a | itemReplace i a =>
    obtain ⟨-, ha⟩ := Bool.and_eq_true_iff.mp h
    cases hw; exact length_putItemArg_le ha
  | regPut i r =>
    simp only [Instr.wf, Registration.wf, Bool.and_eq_true, decide_eq_true_eq] at h
    obtain ⟨-, ⟨⟨⟨hdivisions, -⟩, hvoices⟩, -⟩, hroutes⟩ := h
    cases hw
    rw [List.length_append, Machine.putNum_length, length_putRegistration hdivisions hvoices]
    omega
  | tuneData bs =>
    have hlen : 1 ≤ bs.length ∧ bs.length ≤ 48 := by simpa [Instr.wf] using h
    cases hw; omega
  | tuneQuery w => cases hw; exact (length_putTuneRef_le h).trans (by decide)
  | keyLookup w | keyRelease w => cases hw; exact (length_putKeyRef_le h).trans (by decide)
  | trackQuery p st | stopsQuery p st =>
    cases hw
    have := length_putStart_le st
    rw [List.length_append, Machine.putNum_length]
    omega
  | keyList st | countersRead st => cases hw; exact (length_putStart_le st).trans (by decide)
  | organPut => cases hw; simp [putOrganArg]
  | micPut => cases hw; simp [putMicArg]
  | trackPut => cases hw; simp [putTrackArg]
  | _ => cases hw <;> simp

/-- The code of a request is in the catalogue, and so is one byte. -/
theorem code_mem_requestCodes {c : Instr} {code : Nat} {body : List Byte} (hw : writeRequest c = some (code, body)) :
    code ∈ requestCodes := by
  cases c <;> cases hw <;> decide

theorem code_of_frameOf {code : Nat} (h : code ∈ requestCodes) (body : List Byte) : (frameOf code body).code = code :=
  BitVec.toNat_ofNat .. |>.trans (Nat.mod_eq_of_lt (show code < 256 by revert code; decide))

/-- A frame that carries a code of the catalogue passes the first two tests (R196). -/
theorem examine_frameOf {code : Nat} {body : List Byte} {c : Instr} (h : code ∈ requestCodes)
    (hb : readBody code body = some c) : examine (frameOf code body) = .request c := by
  have hsum : (frameOf code body).check = checkByte (frameOf code body).bytes := rfl
  have htail : (frameOf code body).bytes.tail = body := rfl
  rw [examine, if_neg (not_not.mpr hsum), code_of_frameOf h, if_neg (not_not.mpr h), htail, hb]

/-- Settles O6: the body fits a frame, and the frame passes the three tests. -/
theorem requestFramesReadBack : Obligations.RequestFramesReadBack := by
  intro c code body h hw
  have hcode := code_mem_requestCodes hw
  have hlen : (frameOf code body).bytes.length = body.length + 1 := List.length_cons
  refine ⟨hcode, ?_, examine_frameOf hcode (readBody_of_written h hw)⟩
  have := length_written_le h hw
  simp only [RawFrame.wf, hlen, Bool.and_eq_true, decide_eq_true_eq]
  omega

end Sys2Proof
end

section
/-! SUPPORT (O7, O10, O12). A byte of the line by the receiver's state (R194, R195). -/

namespace Sys2Proof.Machine

section
variable {s : State} (b : Byte)

theorem State.receive_hunt (h : s.link.receiver.state = .hunt) : s.receive b =
    if b = 0x7E#8 then s.setReceiver { state := .length, need := 0, bytes := [], gapAt := gapFrom s.clock } else s := by
  rw [State.receive, h]

theorem State.receive_length (h : s.link.receiver.state = .length) : s.receive b =
    if 1 ≤ b.toNat ∧ b.toNat ≤ 64 then
      s.setReceiver { state := .body, need := b.toNat, bytes := [], gapAt := gapFrom s.clock }
    else s.refuseFrame 0 .badFrame 2 := by
  rw [State.receive, h]
  rfl

/-- R195: a bad length byte. -/
theorem State.receive_badLength (h : s.link.receiver.state = .length) (hb : b.toNat = 0 ∨ 64 < b.toNat) :
    s.receive b = s.refuseFrame 0 .badFrame 2 := by
  rw [State.receive_length b h, if_neg (by omega)]

theorem State.receive_body (h : s.link.receiver.state = .body) : s.receive b = s.bodyByte b := by
  rw [State.receive, h]

theorem State.receive_check (h : s.link.receiver.state = .check) :
    s.receive b = s.takeFrame { bytes := s.link.receiver.bytes, check := b } := by
  rw [State.receive, h]

end

end Sys2Proof.Machine
end

section
/-! PROOF (O7). The layout of a frame and of a character (R194, R206). -/

namespace Sys2Proof.Machine

/-! ### Frames (R206) -/

theorem byteSum_append (as bs : List Byte) : byteSum (as ++ bs) = byteSum as + byteSum bs := by
  induction as with
  | nil => simp [byteSum]
  | cons a as ih =>
    calc byteSum (a :: as ++ bs) = a + byteSum (as ++ bs) := rfl
      _ = a + byteSum as + byteSum bs := by rw [ih, BitVec.add_assoc]

/-- The check byte brings bytes 1 to N + 2 to 0. -/
theorem byteSum_frameOnLine (bytes : List Byte) : byteSum (frameOnLine bytes).tail = 0#8 := by
  have hsingle (b : Byte) : byteSum [b] = b := BitVec.add_zero b
  have hparts : (frameOnLine bytes).tail = [BitVec.ofNat 8 bytes.length] ++ bytes ++ [checkByte bytes] := rfl
  rw [hparts, byteSum_append, byteSum_append, hsingle, hsingle, checkByte, BitVec.add_right_neg]

/-! ### Characters (R194) -/

theorem getElem?_levels (c : Character) {i : Nat} (h : i < 8) : c.levels[i + 1]? = some (c.data.getLsbD i) := by
  simp [Character.levels, List.getElem?_append_left, h]

/-- Ten bit times that begin with a start bit are the character. -/
theorem characterOf_levels (c : Character) : characterOf c.levels = some c := by
  have hdata : BitVec.ofBoolListLE [c.data.getLsbD 0, c.data.getLsbD 1, c.data.getLsbD 2, c.data.getLsbD 3,
      c.data.getLsbD 4, c.data.getLsbD 5, c.data.getLsbD 6, c.data.getLsbD 7] = c.data := by
    refine BitVec.eq_of_getLsbD_eq fun i hi => ?_
    rw [BitVec.getLsbD_ofBoolListLE]
    have hi : i < 8 := hi
    interval_cases i <;> rfl
  exact congrArg (fun d : Byte => some ({ data := d, stop := c.stop } : Character)) hdata

/-- Settles O7: frames and rejects by their definitions, the check byte by the sum it completes. -/
theorem frameLayout : Obligations.FrameLayout := by
  refine ⟨fun code body hlen => ⟨checkByte (code :: body), rfl, byteSum_frameOnLine _, by omega, ?_⟩,
    fun code detail reason => rfl, rfl, fun code body => rfl, fun b s hr hs hb hfree => ?_,
    fun c => ⟨rfl, rfl, rfl, fun i hi => getElem?_levels c hi, characterOf_levels c⟩, fun l a ha => ?_, fun l => rfl⟩
  · exact Nat.mod_eq_of_lt (by omega)
  · refine ⟨_, exec_partialFrameByte hr b, ?_⟩
    rw [State.receive_badLength b hs hb, State.refuseFrame_free hfree]
    rfl
  · rw [Link.sentLevels, ha]
    rfl

end Sys2Proof.Machine
end

section
/-! PROOF (O11). STATUS and its body, RESET and the COUNTERS requests (R200, R204, R205, R209). -/

namespace Sys2Proof.Machine

theorem putNum_one (n : Nat) : putNum 1 n = [BitVec.ofNat 8 n] := by
  simp [putNum]

/-- R209, byte 16: a last cue, or 255. -/
theorem cueByte_eq (o : Option LastCue) : BitVec.ofNat 8 ((o.map cueByte).getD 255) = (match o with
    | none => 255#8
    | some c =>
      BitVec.ofNat 8 ((match c.button with | .go => 1 | .hold => 2 | .stop => 3) + if c.taken then 0 else 128)) := by
  cases o with
  | none => rfl
  | some c =>
    obtain ⟨button, tick, taken⟩ := c
    cases button <;> cases taken <;> rfl

/-- R209: STATUS's body, byte by byte. The definition is opened by `delta`, for Lean's own equation of so long a sum of
lists is too deep to check. -/
theorem putStatus_eq (s : State) : putStatus s =
      [BitVec.ofNat 8 s.link.cause.code,
       BitVec.ofNat 8 (s.chain.phase.code + 16 * FaultCause.code s.chain.cause),
       BitVec.ofNat 8 (s.chain.length.getD 255),
       BitVec.ofNat 8 (verdictByte s),
       BitVec.ofNat 8 s.play.reader.flow.code,
       BitVec.ofNat 8 (s.play.cursor.getD 255),
       BitVec.ofNat 8 (sectionByte s.play.reader.section),
       BitVec.ofNat 8 (EndCause.code s.play.reader.cause),
       BitVec.ofNat 8 s.play.tracker.state.code] ++
      putNum 3 s.play.tracker.period ++ putOpt 3 (s.play.tracker.posAt s.clock) ++
      [BitVec.ofNat 8 ((s.play.tracker.posAt s.clock).isSome.toNat + 2 * s.play.reader.lastCue.isSome.toNat),
       BitVec.ofNat 8 ((s.play.reader.lastCue.map cueByte).getD 255)] ++
      putOptTick (s.play.reader.lastCue.map (·.tick)) ++
      [BitVec.ofNat 8 s.play.slotsInUse, BitVec.ofNat 8 (presenceState s.listening),
       BitVec.ofNat 8 s.play.apply.state.code, BitVec.ofNat 8 s.play.apply.faults] ++
      putNum 3 s.play.latches.toNat ++ putNum 4 s.clock.toNat := by
  have hpresence (a b : Bool) : putPresence [a, b] = [BitVec.ofNat 8 (a.toNat + 2 * b.toNat)] := by
    cases a <;> cases b <;> rfl
  delta putStatus
  simp only [putOr255, putNum_one, hpresence, putLatches, putTick, List.append_assoc, List.cons_append,
    List.nil_append]

theorem length_putStatus (s : State) : (putStatus s).length = 32 := by
  simp only [putStatus_eq, putOpt, putOptTick, putTick, List.length_append, List.length_cons, List.length_nil,
    putNum_length]

section
variable {s : State} (h : Ready s)
include h

theorem exec_status : exec .status s = .next { s with link := replyLink s 0x01 (putStatus s) } := by
  rw [exec_request_ready rfl h]
  rfl

theorem exec_reset : exec .reset s = .next { s with link := { replyLink s 0x02 [] with resetPending := true } } := by
  rw [exec_request_ready rfl h]
  rfl

theorem exec_countersRead (start : Option Nat) : exec (.countersRead start) s = .next (
    if 38 < start.getD 0 then { s with link := rejectLink s 0x48 .badArgument 0 }
    else { s with
      link := replyLink s 0x48 (putNum 1 (start.getD 0) ++ putNum 1 39 ++
        ((s.play.counters.drop (start.getD 0)).take 30).flatMap (putNum 2)) }) := by
  rw [exec_request_ready rfl h]
  simp only [carryOut, carryCountersRead]
  split <;> rfl

theorem exec_countersClear : exec .countersClear s = .next { s with
    play := { s.play with counters := s.play.counters.map (fun _ => 0) }, link := replyLink s 0x49 [] } := by
  rw [exec_request_ready rfl h]
  rfl

end

/-- Settles O11: each of the four requests in one equation, and STATUS's body from its layout. -/
theorem statusResetAndCounters : Obligations.StatusResetAndCounters := by
  refine ⟨fun s h => ⟨exec_status h, length_putStatus s, exec_reset h⟩, fun s => ?_,
    fun s start h => ⟨exec_countersRead h start, exec_countersClear h⟩⟩
  refine ⟨putOpt 3 (s.play.tracker.posAt s.clock), putOptTick (s.play.reader.lastCue.map (·.tick)), putNum_length 3 _,
    putNum_length 4 _, ?_, fun x hx => by rw [hx]; rfl, fun c hc => by rw [hc]; rfl⟩
  exact (putStatus_eq s).trans (cueByte_eq s.play.reader.lastCue ▸ rfl)

end Sys2Proof.Machine
end

section
/-! PROOF (O13). EVENTS MASK, EVENTS FORCE and the level of ATTN (R203). -/

namespace Sys2Proof.Machine

/-- R201: a set that names a bit from 19 to 23 is refused, and the others are taken. -/
theorem hunt_tested_latchTest (s : State) (code : Nat) (set : BitVec 24) (carry : State → State) :
    s.hunt.tested code (latchTest set) carry =
      if 2 ^ 19 ≤ set.toNat then { s with link := rejectLink s code .badArgument 0 } else carry s.hunt := by
  unfold latchTest namesOnlyLatches
  by_cases h : set.toNat < 2 ^ 19
  · rw [if_neg (not_le.mpr h), decide_eq_true h]
    rfl
  · rw [if_pos (not_lt.mp h), decide_eq_false h]
    rfl

section
variable {s : State} (h : Ready s) (set : BitVec 24)
include h

theorem exec_eventsMask : exec (.eventsMask set) s = .next (
    if 2 ^ 19 ≤ set.toNat then { s with link := rejectLink s 0x42 .badArgument 0 }
    else { s with
      link := { replyLink s 0x42 (putNum 3 (set.setWidth 19).toNat) with mask := set.setWidth 19 } }) := by
  rw [exec_request_ready rfl h]
  rw [carryOut, carryEventsMask, hunt_tested_latchTest]
  rfl

theorem exec_eventsForce : exec (.eventsForce set) s = .next (
    if 2 ^ 19 ≤ set.toNat then { s with link := rejectLink s 0x43 .badArgument 0 }
    else { s with
      play := { s.play with latches := s.play.latches ||| set.setWidth 19 }
      link := replyLink s 0x43 (putNum 3 (s.play.latches ||| set.setWidth 19).toNat) }) := by
  rw [exec_request_ready rfl h]
  rw [carryOut, carryEventsForce, hunt_tested_latchTest]
  rfl

end

/-- Two sets of latches share one exactly when their intersection is not empty. -/
theorem and_ne_zero_iff {a b : LatchSet} :
    a &&& b ≠ 0 ↔ ∃ n : Nat, n < 19 ∧ a.getLsbD n = true ∧ b.getLsbD n = true := by
  constructor
  · intro h
    by_contra hnone
    push Not at hnone
    refine h (BitVec.eq_of_getLsbD_eq fun i hi => ?_)
    have hi := hnone i hi
    simpa using hi
  · rintro ⟨n, -, ha, hb⟩ h
    have hn := congrArg (fun x : LatchSet => x.getLsbD n) h
    simp [ha, hb] at hn

/-- R203: the attention line. -/
theorem State.attn_iff (s : State) : s.attn = true ↔
    s.inReset = false ∧ ∃ n : Nat, n < 19 ∧ s.play.latches.getLsbD n = true ∧ s.link.mask.getLsbD n = true := by
  rw [State.attn, Bool.and_eq_true, decide_eq_true_iff, and_ne_zero_iff, Bool.not_eq_true']

/-- A reset's end leaves the mask, and asserts ATTN when the mask has RESET in it (R203). -/
theorem State.endReset_attn {s : State} (h : s.link.mask.getLsbD 0 = true) (rateHigh : Bool) :
    (s.endReset rateHigh).attn = true := by
  refine (State.attn_iff _).mpr ⟨rfl, 0, by decide, ?_, h⟩
  show (s.play.latches ||| BitVec.twoPow 19 0).getLsbD 0 = true
  rw [BitVec.getLsbD_or]
  simp

theorem State.sent_mask (s : State) (rateHigh : Bool) : (s.sent rateHigh).link.mask = s.link.mask := by
  unfold State.sent
  split
  · rfl
  · split
    · rfl
    · split <;> rfl

/-- R205: the end of RESET's reply is the end of a REQUEST reset. -/
theorem State.sent_reset {s : State} (ha : s.link.answer.isSome = true) (hp : s.link.resetPending = true)
    (rateHigh : Bool) : s.sent rateHigh = (s.preparedReset .request).endReset rateHigh := by
  obtain ⟨a, ha⟩ := Option.isSome_iff_exists.mp ha
  rw [State.sent, ha, hp]
  rfl

/-- Settles O13. -/
theorem maskForceAndAttention : Obligations.MaskForceAndAttention := by
  have hsent (s : State) (r : Bool) : exec (.answerSent r) s = .next (s.event (fun t => t.sent r)) := rfl
  refine ⟨fun s set h => ⟨exec_eventsMask h set, exec_eventsForce h set⟩, State.attn_iff, ?_, ?_, ?_,
    fun s t r hmask => ⟨fun hr ht => ?_, fun hr ha hp ht => ?_⟩⟩
  · rintro s t ⟨⟩
    rfl
  · rintro s t ⟨⟩
    rfl
  · intro s t r ht
    rw [hsent] at ht
    cases ht
    unfold State.event
    split
    · rfl
    · exact State.sent_mask s r
  · have hend : exec (.resetEnd r) s = .next (if s.inReset then s.endReset r else s) := rfl
    rw [hend, if_pos hr] at ht
    cases ht
    exact State.endReset_attn hmask r
  · rw [hsent, State.event_awake hr, State.sent_reset ha hp] at ht
    cases ht
    exact State.endReset_attn (s := s.preparedReset .request) hmask r

end Sys2Proof.Machine
end

section
/-! SUPPORT (O10). A body is read only as a request of its own code (10.4, R196). -/

namespace Sys2Proof

/-- What is read, if anything is, is a request of this code. -/
def CarriedBy (code : Nat) (o : Option Instr) : Prop := ∀ c, o = some c → ∃ body, writeRequest c = some (code, body)

section
variable {code : Nat} {bs : List Byte}

theorem CarriedBy.some {c : Instr} {body : List Byte} (h : writeRequest c = some (code, body)) :
    CarriedBy code (.some c) := by
  rintro _ ⟨⟩
  exact ⟨body, h⟩

theorem CarriedBy.none : CarriedBy code .none := by
  rintro _ ⟨⟩

theorem CarriedBy.ended {c : Instr} {body : List Byte} (h : writeRequest c = .some (code, body)) :
    CarriedBy code (ended bs c) := by
  unfold Sys2Proof.ended
  split
  · exact .some h
  · exact .none

theorem CarriedBy.bind {β : Type} {o : Option β} {f : β → Option Instr} (h : ∀ x, CarriedBy code (f x)) :
    CarriedBy code (o >>= f) := fun c hc =>
  let ⟨x, _, hx⟩ := Option.bind_eq_some_iff.mp hc
  h x c hx

theorem CarriedBy.map {β : Type} {o : Option β} {make : β → Instr}
    (h : ∀ x, ∃ body, writeRequest (make x) = .some (code, body)) : CarriedBy code (o.map make) := by
  intro c hc
  obtain ⟨x, -, rfl⟩ := Option.map_eq_some_iff.mp hc
  exact h x

theorem carriedBy_takeOne {k : Nat} {make : Nat → Instr} (h : ∀ n, ∃ body, writeRequest (make n) = some (code, body)) :
    CarriedBy code (takeOne k make bs) := .bind fun (n, _) => .ended (h n).choose_spec

theorem carriedBy_takeTwo {j k : Nat} {make : Nat → Nat → Instr}
    (h : ∀ m n, ∃ body, writeRequest (make m n) = some (code, body)) : CarriedBy code (takeTwo j k make bs) :=
  .bind fun (m, _) => .bind fun (n, _) => .ended (h m n).choose_spec

theorem carriedBy_takeThree {i j k : Nat} {make : Nat → Nat → Nat → Instr}
    (h : ∀ l m n, ∃ body, writeRequest (make l m n) = some (code, body)) : CarriedBy code (takeThree i j k make bs) :=
  .bind fun (l, _) => .bind fun (m, _) => .bind fun (n, _) => .ended (h l m n).choose_spec

end

section
variable (bs : List Byte)

theorem carriedBy_takeDivisionArg : CarriedBy 0x08 (takeDivisionArg bs) :=
  .bind fun (_, _) => .bind fun (_, _) => .bind fun (_, _) => .bind fun (_, _) => .bind fun (_, _) =>
  .bind fun (_, _) => .bind fun (_, _) => .bind fun (_, _) => .bind fun (_, _) => .bind fun (_, _) =>
  .bind fun (_, _) => .ended rfl

theorem carriedBy_takeOrganArg : CarriedBy 0x0B (takeOrganArg bs) :=
  .bind fun (_, _) => .bind fun (_, _) => .bind fun (_, _) => .bind fun (_, _) => .bind fun (_, _) =>
  .bind fun (_, _) => .ended rfl

theorem carriedBy_takeRegPut : CarriedBy 0x1C (takeRegPut bs) :=
  .bind fun (_, _) => .bind fun (_, _) => .bind fun (_, _) => .ended rfl

theorem carriedBy_takeMicPut : CarriedBy 0x20 (takeMicPut bs) :=
  .bind fun (_, _) => .bind fun (_, _) => .bind fun (_, _) => .bind fun (_, _) => .bind fun (_, _) =>
  .bind fun (_, _) => .bind fun (_, _) => .bind fun (_, _) => .ended rfl

theorem carriedBy_takeTrackPut : CarriedBy 0x23 (takeTrackPut bs) :=
  .bind fun (_, _) => .bind fun (_, _) => .bind fun (_, _) => .bind fun (_, _) => .bind fun (_, _) =>
  .bind fun (_, _) => .bind fun (_, _) => .ended rfl

theorem carriedBy_takeTrackQuery : CarriedBy 0x24 (takeTrackQuery bs) := by
  refine .bind fun (_, _) => .bind fun _ => ?_
  split
  · exact .some rfl
  · exact .none

theorem carriedBy_takeStopsQuery : CarriedBy 0x39 (takeStopsQuery bs) :=
  .bind fun (_, _) => .bind fun _ => .some rfl

theorem carriedBy_takeTuneData : CarriedBy 0x11 (takeTuneData bs) := by
  unfold takeTuneData
  split
  · exact .some rfl
  · exact .none

theorem carriedBy_takeTuneQuery : CarriedBy 0x14 (takeTuneQuery bs) := by
  unfold takeTuneQuery
  split
  · exact .none
  · split
    · exact .bind fun (_, _) => .ended rfl
    · split
      · exact .bind fun (_, _) => .ended rfl
      · split
        · exact .some rfl
        · exact .none

/-- A body that is read under a code is a request of that code. -/
theorem carriedBy_readBody (code : Nat) : CarriedBy code (readBody code bs) := by
  unfold readBody
  split
  case h_1 | h_2 | h_7 | h_13 | h_26 | h_27 | h_37 | h_42 => exact .ended rfl
  case h_4 | h_5 | h_10 | h_11 | h_16 | h_17 | h_19 | h_21 | h_28 | h_33 | h_34 | h_38 | h_39 | h_40 =>
    exact carriedBy_takeOne fun _ => ⟨_, rfl⟩
  case h_8 | h_22 | h_25 | h_36 => exact carriedBy_takeTwo fun _ _ => ⟨_, rfl⟩
  case h_31 => exact carriedBy_takeThree fun _ _ _ => ⟨_, rfl⟩
  case h_14 | h_15 | h_29 | h_30 | h_32 | h_41 => exact .map fun _ => ⟨_, rfl⟩
  case h_3 => exact carriedBy_takeDivisionArg bs
  case h_6 => exact carriedBy_takeOrganArg bs
  case h_9 => exact carriedBy_takeTuneData bs
  case h_12 => exact carriedBy_takeTuneQuery bs
  case h_18 => exact carriedBy_takeRegPut bs
  case h_20 => exact carriedBy_takeMicPut bs
  case h_23 => exact carriedBy_takeTrackPut bs
  case h_24 => exact carriedBy_takeTrackQuery bs
  case h_35 => exact carriedBy_takeStopsQuery bs
  case h_43 => exact .none

end

/-- A frame that passes carries a request that is written under the frame's code. -/
theorem writeRequest_of_examine {f : RawFrame} {c : Instr} (h : examine f = .request c) :
    ∃ body, writeRequest c = some (f.code, body) := by
  unfold examine at h
  split at h
  · cases h
  · split at h
    · cases h
    · split at h
      · cases h
      · cases h
        exact carriedBy_readBody _ _ _ ‹_›

end Sys2Proof
end

section
/-! PROOF (O10). The receiver, byte by byte (R194 to R196, R198). -/

namespace Sys2Proof.Machine

section
variable {s : State} {b : Byte}

/-- R194: a character with its stop bit low. -/
theorem exec_partialFrameByte_discarded (b : Byte) (s : State) :
    exec (.partialFrameByte { data := b, stop := false }) s = .next s :=
  congrArg _ (ite_self s)

/-- R195, R196, R198: a bad length byte, by the link. -/
theorem exec_badLength (hr : s.inReset = false) (hs : s.link.receiver.state = .length)
    (hb : b.toNat = 0 ∨ 64 < b.toNat) {p : Play}
    (hp : p = { s.play with counters := s.play.counters.modify 0 (fun n => min (n + 1) 65535) }) :
    (s.link.busy = false → exec (.partialFrameByte (goodCharacter b)) s = .next { s with
      link := rejectLink s 0 .badFrame 2, play := p }) ∧
    (s.link.busy = true → s.link.waiting = none →
      exec (.partialFrameByte (goodCharacter b)) s = .next { s with
        link := { s.link with receiver := .hunting, waiting := some (rejectAnswer 0 .badFrame 2) }, play := p }) ∧
    (s.link.busy = true → s.link.waiting.isSome = true →
      exec (.partialFrameByte (goodCharacter b)) s = .next { s with
        link := { s.link with receiver := .hunting }, play := p }) := by
  have hcount : p = s.play.count .badFrame := hp
  rw [exec_partialFrameByte hr, State.receive_badLength b hs hb, hcount]
  exact ⟨fun hfree => congrArg _ (State.refuseFrame_free hfree), fun hbusy hw => congrArg _ (State.refuseFrame_busy hbusy hw),
    fun hbusy hw => congrArg _ (State.refuseFrame_discarded hbusy hw)⟩

/-- R195 to R197: the byte that completes a frame has it refused, or taken as its request is, as from HUNT. -/
theorem exec_checkByte (hr : s.inReset = false) (hs : s.link.receiver.state = .check) {f : RawFrame} {u : State}
    (hf : f = { bytes := s.link.receiver.bytes, check := b })
    (hu : u = { s with link := { s.link with receiver := .hunting } }) :
    (∀ reason detail, refusalOf f = some (reason, detail) →
      exec (.partialFrameByte (goodCharacter b)) s = exec (.frameRejected f) u) ∧
    (∀ c, examine f = .request c → exec (.partialFrameByte (goodCharacter b)) s = exec c u) := by
  have hunting : FrameCompletes u.link.receiver f := .inl (by rw [hu]; rfl)
  have hawake : u.inReset = false := by rw [hu]; exact hr
  rw [exec_partialFrameByte hr, State.receive_check b hs, ← hf]
  refine ⟨fun reason detail h => ?_, fun c h => ?_⟩
  · rw [State.takeFrame_refused h, exec_frameRejected hawake h, State.arrive_completes hunting, hu]
    rfl
  · obtain ⟨body, hw⟩ := writeRequest_of_examine h
    rw [State.takeFrame_request h, exec_request_completes hw hawake (.inl (by rw [hu]; rfl)), hu]
    rfl

/-- R195: the gap expiry. -/
theorem exec_frameGapExpiry (hr : s.inReset = false) : exec .frameGapExpiry s = .next (
    if s.link.receiver.state ≠ .hunt ∧ ∃ t, s.link.receiver.gapAt = some t ∧ hasCome s.clock t = true then
      { s with
        link := { s.link with receiver := .hunting }
        play := { s.play with counters := s.play.counters.modify 0 (fun n => min (n + 1) 65535) } }
    else s) := by
  have hc : exec .frameGapExpiry s = .next (if s.gapDue then s.hunt.countBadFrame else s) :=
    congrArg _ (State.event_awake hr _)
  have hdue : s.gapDue = true ↔
      s.link.receiver.state ≠ .hunt ∧ ∃ t, s.link.receiver.gapAt = some t ∧ hasCome s.clock t = true := by
    rw [State.gapDue, Bool.and_eq_true, decide_eq_true_iff]
    cases s.link.receiver.gapAt <;> simp
  rw [hc]
  exact congrArg _ (if_congr hdue rfl rfl)

/-- A frame that finds the receiver keeping part of another, whatever its command (log 3). -/
theorem exec_arrivingBytes {c : Instr} {f : RawFrame} (hr : s.inReset = false)
    (hf : ¬ FrameCompletes s.link.receiver f)
    (hc : (∃ code body, writeRequest c = some (code, body) ∧ f = frameOf code body) ∨
      (c = .frameRejected f ∧ refusalOf f ≠ none) ∨ (c = .frameWhileBusy f ∧ s.link.busy = true)) :
    exec c s = .next (f.onLine.foldl (fun t b => t.receive b) s) := by
  obtain ⟨code, body, hw, rfl⟩ | ⟨rfl, hfails⟩ | ⟨rfl, hbusy⟩ := hc
  · exact exec_request_bytes hw hr hf
  · obtain ⟨⟨reason, detail⟩, h⟩ := Option.ne_none_iff_exists'.mp hfails
    rw [exec_frameRejected hr h, State.arrive_bytes hf]
  · rw [exec_frameWhileBusy hr hbusy, State.arrive_bytes hf]

end

/-- Settles O10: each byte by the state of the receiver that it finds. -/
theorem receiverTakesBytes : Obligations.ReceiverTakesBytes := by
  refine ⟨exec_partialFrameByte_discarded, fun b s hr => ⟨fun hs => ?_, fun hs hlow hhigh => ?_,
    fun hs hb p hp => exec_badLength hr hs hb hp, fun hs => ?_, fun hs f u hf hu => exec_checkByte hr hs hf hu,
    exec_frameGapExpiry hr⟩, fun f s hr hf c hc => exec_arrivingBytes hr hf hc, fun b s hr => exec_partialFrameByte hr b,
    fun f => rfl⟩
  · rw [exec_partialFrameByte hr, State.receive_hunt b hs]
    rfl
  · rw [exec_partialFrameByte hr, State.receive_length b hs, if_pos ⟨hlow, hhigh⟩]
    rfl
  · rw [exec_partialFrameByte hr, State.receive_body b hs, State.bodyByte]
    simp only [List.length_append, List.length_singleton]
    rfl

end Sys2Proof.Machine
end

section
/-! SUPPORT (O12). The keying, the tracker and the matcher raise latches and clear none (R202). -/

namespace Sys2Proof.Machine

/-- Each latch that play p has set is set in play q. -/
structure LatchesKept (p q : Play) : Prop where
  kept : ∀ l, p.latches.getLsbD l = true → q.latches.getLsbD l = true

section
variable {p q r : Play}

theorem LatchesKept.of_latches (h : q.latches = p.latches) : LatchesKept p q := by
  constructor
  rw [h]
  exact fun _ => id

theorem LatchesKept.refl (p : Play) : LatchesKept p p := ⟨fun _ => id⟩

theorem LatchesKept.trans (h : LatchesKept p q) (h' : LatchesKept q r) : LatchesKept p r :=
  ⟨fun l hl => h'.kept l (h.kept l hl)⟩

/-- Latches are raised on top of those that are set. -/
theorem LatchesKept.raised (set : LatchSet) (h : q.latches = p.latches ||| set) : LatchesKept p q := by
  refine ⟨fun l hl => ?_⟩
  rw [h, BitVec.getLsbD_or, hl, Bool.true_or]

theorem latchesKept_latch (p : Play) (l : Latch) : LatchesKept p (p.latch l) := .raised _ rfl

theorem LatchesKept.latched (h : LatchesKept p q) (l : Latch) : LatchesKept p (q.latch l) :=
  h.trans (latchesKept_latch q l)

/-- What has a play's latches keeps them too. -/
theorem LatchesKept.latches_right (h : LatchesKept p q) (hr : r.latches = q.latches) : LatchesKept p r :=
  h.trans (.of_latches hr)

theorem LatchesKept.latches_left (h : LatchesKept q r) (hq : q.latches = p.latches) : LatchesKept p r :=
  (LatchesKept.of_latches hq).trans h

theorem KeysAlone.latches (h : KeysAlone p q) : q.latches = p.latches := by
  rw [h]

/-- An effect under a guard. -/
theorem LatchesKept.guarded {b : Prop} [Decidable b] (h : LatchesKept p q) : LatchesKept p (if b then q else p) := by
  split
  · exact h
  · exact .refl p

end

section
variable (e : Env) (i : Nat) (p : Play)

@[simp] theorem Play.countIf_latches (b : Bool) (c : Counter) : (p.countIf b c).latches = p.latches := by
  cases b <;> rfl

/-! ### Keying (R156 to R169) -/

@[simp] theorem rederive_latches : (rederive e i p).latches = p.latches := (rederive_keeps e i i p).1.latches
@[simp] theorem unlink_latches : (unlink e i p).latches = p.latches := (unlink_keeps e i i p).1.latches
@[simp] theorem retire_latches : (retire e i p).latches = p.latches := (retire_keeps e i i p).1.latches

@[simp] theorem keyRecord_latches : (keyRecord e i p).latches = p.latches := by
  unfold keyRecord
  split
  · rfl
  · split
    · simp only
      split <;> simp
    · rfl

@[simp] theorem joinRecord_latches (r : KeyRecord) (sp : Span) (n : NoteIn) (stop : Nat) :
    (joinRecord e i r sp n stop p).latches = p.latches := rederive_latches e i _

@[simp] theorem placeRecord_latches (n : NoteIn) : (placeRecord e n i p).latches = p.latches := by
  have placed (q : Play) (hq : q.latches = p.latches) (come : Bool) :
      (if come then keyRecord e i q else q).latches = p.latches := by
    cases come
    · exact hq
    · exact (keyRecord_latches e i q).trans hq
  unfold placeRecord
  refine placed _ ?_ _
  split
  · rfl
  · exact rederive_latches e _ _

/-- R165: a record made by stealing raises NOTE STOLEN. -/
theorem latchesKept_newRecord (n : NoteIn) : LatchesKept p (newRecord e n p) := by
  unfold newRecord
  split
  · exact .of_latches (placeRecord_latches e _ p n)
  · split
    · exact .of_latches rfl
    · rename_i j _
      have stolen : LatchesKept p (((retire e j p).count .stolen).latch .noteStolen) :=
        .latched (.of_latches ((Play.count_latches _ _).trans (retire_latches e j p))) _
      exact stolen.latches_right (placeRecord_latches e j _ n)

theorem latchesKept_takeNote (n : NoteIn) : LatchesKept p (takeNote e n p) := by
  have joined (i : Nat) (r : KeyRecord) (sp : Span) (stop : Nat) : LatchesKept p (joinRecord e i r sp n stop p) :=
    .of_latches (joinRecord_latches e i p r sp n stop)
  unfold takeNote
  split
  · exact latchesKept_newRecord e p n
  · split
    · exact joined _ _ _ _
    · split
      · exact joined _ _ _ _
      · split
        · exact (joined _ _ _ _).latches_right rfl
        · simp only
          split
          · split
            · exact (joined _ _ _ _).latches_right rfl
            · exact (latchesKept_newRecord e (p.count .merged) n).latches_left rfl
          · exact latchesKept_newRecord e p n

theorem latchesKept_foldl {α : Type} {f : Play → α → Play} (h : ∀ q a, LatchesKept q (f q a)) (l : List α) :
    LatchesKept p (l.foldl f p) := by
  induction l generalizing p with
  | nil => exact .refl p
  | cons a l ih => exact (h p a).trans (ih (f p a))

theorem latchesKept_handNote (reg : Registration) (tune : Tune) (origin : Origin) (tag position : Nat) (note : Note) :
    LatchesKept p (handNote e reg tune origin tag position p note) := by
  refine latchesKept_foldl p (fun q route => ?_) _
  unfold handOnRoute
  split
  · exact .of_latches rfl
  · exact (latchesKept_takeNote e _ _).latches_left (Play.countIf_latches _ _ _)

@[simp] theorem takeOnTime_latches : (takeOnTime e i p).latches = p.latches := by
  unfold takeOnTime
  split <;> simp

@[simp] theorem takeOffTime_latches : (takeOffTime e i p).latches = p.latches := by
  unfold takeOffTime
  split <;> simp

theorem latchesKept_takeDeadline : LatchesKept p (takeDeadline e i p) :=
  .guarded (.latched (.of_latches ((Play.count_latches _ _).trans (retire_latches e i p))) _)

/-! ### Following the reference (R90, R111 to R121) -/

@[simp] theorem deriveWindow_latches : (deriveWindow e p).latches = p.latches := by
  rw [deriveWindow_eq]

@[simp] theorem deriveScheduling_latches : (deriveScheduling e p).latches = p.latches := by
  rw [deriveScheduling_eq]

@[simp] theorem deriveExpiries_latches : (deriveExpiries e p).latches = p.latches := by
  rw [deriveExpiries_eq]

@[simp] theorem trackerUpdate_latches : (trackerUpdate e p).latches = p.latches := deriveExpiries_latches e _

/-- R120: the miss that makes the tracker COASTING raises TRACK LOST. -/
theorem latchesKept_takeMiss : LatchesKept p (takeMiss p) := by
  rw [takeMiss_eq]
  split
  · exact .raised 512#19 rfl
  · exact .of_latches rfl

theorem latchesKept_takeWindowClose : LatchesKept p (takeWindowClose e p) := by
  refine .guarded ?_
  unfold closeWindow
  split
  · exact .refl p
  · refine .latches_right ?_ (deriveWindow_latches e _)
    exact (latchesKept_takeMiss _).latches_left rfl

/-- R115 to R118: a correction taken while COASTING raises TRACK REGAINED. -/
theorem latchesKept_takeCorrection (a : Nat) (t : Tick) (tag : Option Nat) :
    LatchesKept p (takeCorrection e a t tag p) := by
  unfold takeCorrection
  refine .guarded (LatchesKept.latches_right ?_ (trackerUpdate_latches e _))
  split
  · exact .latched (.of_latches (by simp)) _
  · exact .of_latches (by simp)

@[simp] theorem rebaseNow_latches : (rebaseNow e p).latches = p.latches := by
  unfold rebaseNow
  simp only
  split <;> simp

@[simp] theorem putTrack_latches (params : TrackParams) : (putTrack params e p).latches = p.latches := by
  unfold putTrack
  simp only
  split <;> simp

/-! ### Holds (R121 to R127) -/

theorem latchesKept_enterHold (entry : HoldEntry) (f : Fermata) : LatchesKept p (enterHold e entry f p) := by
  unfold enterHold
  exact .latches_right (.raised _ rfl) (deriveExpiries_latches e _)

@[simp] theorem extendHold_latches : (extendHold e p).latches = p.latches := by
  unfold extendHold
  split <;> simp

theorem latchesKept_endHold : LatchesKept p (endHold e p) := by
  unfold endHold
  simp only
  split
  · refine .latches_right ?_ (deriveExpiries_latches e _)
    exact .latches_right (.raised _ rfl) (convertAtHoldEnd_keysAlone e _ _).latches
  · exact .refl p

theorem latchesKept_takeFermata : LatchesKept p (takeFermata e p) := by
  refine .guarded ?_
  split
  · exact latchesKept_enterHold e p _ _
  · exact .refl p

/-! ### Reports (R95 to R103) -/

theorem latchesKept_matchAnchor (c : Nat) (t : Tick) (a : Anchor) : LatchesKept p (matchAnchor e c t a p) := by
  unfold matchAnchor
  refine .latches_right ?_ (deriveWindow_latches e _)
  exact (latchesKept_takeCorrection e _ _ _ _).latches_left rfl

theorem latchesKept_testReport (c : Nat) (t : Tick) : LatchesKept p (testReport e c t p) := by
  unfold testReport
  split
  · split <;> exact .of_latches rfl
  · split
    · exact latchesKept_matchAnchor e p c t _
    · exact .of_latches rfl

theorem latchesKept_takeFirstArrival (c : Nat) (t : Tick) : LatchesKept p (takeFirstArrival e c t p) := by
  unfold takeFirstArrival
  split
  · exact latchesKept_testReport e p c t
  · exact .of_latches rfl

theorem latchesKept_takePair (d : Nat) (k : Candidate) (c : Nat) (t : Tick) (strength : Nat) :
    LatchesKept p (takePair e d k c t strength p) := by
  unfold takePair
  simp only
  split <;> exact (latchesKept_testReport e _ _ _).latches_left rfl

theorem latchesKept_takeAgreement (c : Nat) (t : Tick) (strength : Nat) :
    LatchesKept p (takeAgreement e c t strength p) := by
  have taken (q : Play) (hq : q.latches = p.latches) : LatchesKept p (match agreeing q.matcher c t with
      | some (d, k) => takePair e d k c t strength q
      | none =>
        if hasCome e.clock (t + ticks q.matcher.merge) then q.count (.unconfirmed c)
        else q.setMatcher (q.matcher.setCandidate c
          (some { time := t, strength := strength, expiry := t + ticks q.matcher.merge }))) := by
    refine .latches_left ?_ hq
    split
    · exact latchesKept_takePair e q _ _ _ _ _
    · split <;> exact .of_latches rfl
  unfold takeAgreement
  cases p.matcher.candidate c with
  | none => exact taken p rfl
  | some k => exact taken _ rfl

theorem latchesKept_takeOnset (c : Nat) (t : Tick) (strength : Nat) : LatchesKept p (takeOnset e c t strength p) := by
  unfold takeOnset
  split
  · exact latchesKept_takeFirstArrival e p c t
  · split
    · exact latchesKept_takeAgreement e p c t strength
    · exact .of_latches rfl

theorem latchesKept_takeRelease (t : Tick) : LatchesKept p (takeRelease e t p) := by
  unfold takeRelease
  split
  · exact .guarded (latchesKept_endHold e p)
  · exact .refl p

theorem latchesKept_takeReport (c : Nat) (r : Report) : LatchesKept p (takeReport e c r p) := by
  unfold takeReport
  split
  · exact .refl p
  · exact (latchesKept_takeOnset e _ _ _ _).latches_left rfl
  · exact (latchesKept_takeRelease e _ _).latches_left rfl

@[simp] theorem expireCandidate_latches (c : Nat) : (expireCandidate e c p).latches = p.latches := by
  unfold expireCandidate
  split
  · rfl
  · split <;> rfl

@[simp] theorem forgetMatchedTime_latches : (forgetMatchedTime e i p).latches = p.latches := by
  unfold forgetMatchedTime
  split <;> rfl

end

end Sys2Proof.Machine
end

section
/-! SUPPORT (O12). The sections, the stops and the reader's flow raise latches and clear none (R202). -/

namespace Sys2Proof.Machine

section
variable (e : Env) (p : Play)

/-! ### Section starts and applies (R137, R138, R181 to R187) -/

theorem latchesKept_trackerSectionStart (tag first : Nat) (given : Option Bounds) :
    LatchesKept p (trackerSectionStart e tag first given p) := by
  unfold trackerSectionStart
  exact .latches_right (.guarded (latchesKept_latch p .holdEnd)) rfl

theorem latchesKept_startSection : LatchesKept p (startSection e p) := by
  unfold startSection
  split
  · rename_i item tune sec _ _ _
    have told : LatchesKept p (trackerSectionStart e (p.reader.atSectionStart (sectionEvents item tune sec)).tag
        (sectionFirst item tune sec) p.reader.givenBounds
        { p with reader := p.reader.atSectionStart (sectionEvents item tune sec) }) :=
      (latchesKept_trackerSectionStart e _ _ _ _).latches_left rfl
    exact .latches_right (told.trans (.raised _ rfl)) (trackerUpdate_latches e _)
  · exact .refl p

/-- R185: an apply's completion raises APPLY DONE, and may go on to a section start. -/
theorem latchesKept_completeApply : LatchesKept p (completeApply e p) := by
  have begun (q : Play) : LatchesKept q (beginGap e q) := by
    unfold beginGap
    split
    · exact latchesKept_startSection e q
    · exact .of_latches rfl
  unfold completeApply
  refine .guarded (LatchesKept.trans (.raised _ rfl) (.guarded (begun _)))

theorem latchesKept_requestApply (registration : Nat) (origin : ApplyOrigin) :
    LatchesKept p (requestApply e registration origin p) := by
  unfold requestApply
  exact (latchesKept_completeApply e _).latches_left rfl

@[simp] theorem endPulse_latches (d i : Nat) : (endPulse e d i p).latches = p.latches := by
  unfold endPulse
  split
  · rfl
  · simp only
    repeat' split
    all_goals rfl

theorem latchesKept_timeOutStop (d i : Nat) : LatchesKept p (timeOutStop e d i p) := by
  unfold timeOutStop
  split
  · exact .refl p
  · exact .guarded (.trans (.raised _ rfl) (latchesKept_completeApply e _))

theorem latchesKept_senseRead (bits : SenseImage) : LatchesKept p (senseRead e bits p) := by
  unfold senseRead
  refine LatchesKept.trans ?_ (latchesKept_completeApply e _)
  split
  · exact .of_latches rfl
  · exact .raised _ rfl

theorem latchesKept_closeTables (survey : Bool) : LatchesKept p (closeTables e survey p) := by
  cases survey with
  | true => exact .of_latches rfl
  | false => exact .raised _ rfl

/-! ### The reader's flow (R132 to R148) -/

theorem latchesKept_prepare (i : Nat) : LatchesKept p (prepare e i p) := by
  unfold prepare
  simp only
  split
  · exact (latchesKept_requestApply e _ _ _).latches_left rfl
  · exact .of_latches rfl

theorem latchesKept_takeUp (i n : Nat) (item : Item) (tune : Tune) : LatchesKept p (takeUp i n item tune p) :=
  .raised _ rfl

theorem latchesKept_startItem (i startMode n : Nat) (item : Item) (tune : Tune) :
    LatchesKept p (startItem i startMode n item tune e p) := by
  have taken := latchesKept_takeUp p i n item tune
  unfold startItem
  simp only
  split
  · exact taken.trans (latchesKept_prepare e _ 0)
  · exact taken.latches_right rfl

theorem latchesKept_itemEnd (cause : EndCause) : LatchesKept p (itemEnd cause p) := by
  rw [itemEnd_eq]
  exact .raised _ (BitVec.or_assoc ..)

variable {p} in
theorem latchesKept_takeNext (next : Nat) {go : Play → Play} (h : ∀ q, LatchesKept q (go q)) :
    LatchesKept p (takeNext e next go p) := by
  unfold takeNext
  split
  · exact (latchesKept_takeUp p _ _ _ _).trans (h _)
  · exact .of_latches rfl

theorem latchesKept_endAction (action : EndAction) (i : Nat) : LatchesKept p (endAction e action i p) := by
  unfold endAction
  split
  · exact .of_latches rfl
  · simp only
    split
    · exact .of_latches rfl
    · exact (latchesKept_takeNext e _ (go := waitForGo) fun _ => .of_latches rfl).latches_left rfl
    · exact (latchesKept_takeNext e _ fun q => latchesKept_prepare e q 0).latches_left rfl

/-- R92, R114: a section end that ends a hold raises HOLD END. -/
theorem latchesKept_sectionEnd : LatchesKept p (matcherSectionEnd (trackerSectionEnd p)) := by
  refine LatchesKept.latches_right (q := trackerSectionEnd p) ?_ rfl
  unfold trackerSectionEnd
  simp only
  split
  · exact .raised _ rfl
  · exact .of_latches rfl

theorem latchesKept_endSection : LatchesKept p (endSection e p) := by
  have ended := latchesKept_sectionEnd p
  unfold endSection
  generalize matcherSectionEnd (trackerSectionEnd p) = q at ended ⊢
  refine ended.trans ?_
  simp only
  split
  · split
    · refine .trans ?_ (latchesKept_endAction e _ _ _)
      exact (latchesKept_itemEnd _ _).latches_left rfl
    · exact (latchesKept_itemEnd _ _).latches_left rfl
  · exact (latchesKept_prepare e _ _).latches_left rfl

theorem latchesKept_testSectionEnd : LatchesKept p (testSectionEnd e p) := .guarded (latchesKept_endSection e p)

/-! ### Scheduling (R139 to R141) -/

@[simp] theorem setFermata_latches (f : Fermata) : (setFermata e f p).latches = p.latches := by
  rw [setFermata_eq]

theorem latchesKept_schedule : LatchesKept p (schedule e p) := by
  refine .guarded ?_
  split
  · rename_i item tune sec k ev _ _ _ _
    have noted := latchesKept_foldl p (fun q note => latchesKept_handNote e q
      (e.registration (sectionRegistration item sec)) tune (originOf sec) p.reader.tag ev.position note) ev.notes
    unfold scheduleEvent
    refine .latches_right ?_ (deriveScheduling_latches e _)
    split
    · exact noted.latches_right (setFermata_latches e _ _)
    · exact noted.latches_right rfl
  · exact .of_latches rfl

/-! ### Presses (R142, R148 to R150) -/

theorem latchesKept_pressGo : LatchesKept p (pressGo e p) := by
  unfold pressGo
  split
  · exact latchesKept_prepare e p 0
  · exact .guarded (latchesKept_endHold e p)

theorem latchesKept_pressHold : LatchesKept p (pressHold e p) := by
  refine .guarded ?_
  split
  · exact .of_latches (extendHold_latches e p)
  · split
    · exact (latchesKept_enterHold e _ _ _).latches_left rfl
    · exact .refl p

theorem latchesKept_pressStop : LatchesKept p (pressStop p) := by
  unfold pressStop
  split
  · exact .refl p
  · exact latchesKept_itemEnd p _

/-- R147: a counted press raises CUE. -/
theorem latchesKept_press (b : Button) : LatchesKept p (press e b p) := by
  have counted : LatchesKept p (recordPress b e.clock (pressTaken e b p) p) :=
    .latches_right (.raised _ rfl) (Play.countIf_latches _ _ _)
  unfold press
  refine counted.trans ?_
  cases b with
  | go => exact latchesKept_pressGo e _
  | hold => exact latchesKept_pressHold e _
  | stop => exact latchesKept_pressStop _

@[simp] theorem setCue_latches (b : Button) (c : CueInput) : (setCue b c p).latches = p.latches := by
  cases b <;> rfl

theorem latchesKept_debounce (b : Button) : LatchesKept p (debounce b e p) := by
  unfold debounce
  simp only
  split
  · split
    · exact (latchesKept_press e _ b).latches_left (setCue_latches _ _ _)
    · exact .of_latches (setCue_latches _ _ _)
  · exact .refl p

theorem latchesKept_cancelAll : LatchesKept p (cancelAll p) := by
  unfold cancelAll
  simp only
  split
  · exact .of_latches rfl
  · exact (latchesKept_itemEnd _ _).latches_left rfl

/-- R23: an integrity fault raises CHAIN. -/
theorem latchesKept_faultTables : LatchesKept p (faultTables e p) := by
  unfold faultTables
  have ended : LatchesKept p (if (retireAll p).reader.flow = .idle then retireAll p else itemEnd .fault (retireAll p)) := by
    split
    · exact .of_latches rfl
    · exact (latchesKept_itemEnd _ _).latches_left rfl
  exact ended.trans (.raised _ rfl)

@[simp] theorem putHorizon_latches (n : Nat) : (putHorizon n e p).latches = p.latches := deriveScheduling_latches e _

/-! ### Expiries taken at once -/

theorem latchesKept_takeDue (d : Due) : LatchesKept p (takeDue e d p) := by
  cases d with
  | onTime i => exact .of_latches (takeOnTime_latches e i p)
  | offTime i => exact .of_latches (takeOffTime_latches e i p)
  | windowClose => exact latchesKept_takeWindowClose e p
  | scheduling => exact latchesKept_schedule e p
  | fermata => exact latchesKept_takeFermata e p
  | sectionTest => exact latchesKept_testSectionEnd e p

theorem latchesKept_settle (n : Nat) : LatchesKept p (settle e n p) :=
  settle_induct (P := LatchesKept p) (fun _ _ h => h.latches_right rfl) (fun d q h => h.trans (latchesKept_takeDue e q d))
    n (.refl p)

end

end Sys2Proof.Machine
end

section
/-! SUPPORT (O12). The chest chain, the listening and every request but EVENTS ACK raise latches and clear none. -/

namespace Sys2Proof.Machine

/-- No latch that is set in state s is clear in state t. -/
structure OnlyRaises (s t : State) : Prop where
  latches : LatchesKept s.play t.play

section
variable {s t u : State}

theorem OnlyRaises.same (h : t.play.latches = s.play.latches) : OnlyRaises s t := ⟨.of_latches h⟩

theorem OnlyRaises.refl (s : State) : OnlyRaises s s := ⟨.refl _⟩

theorem OnlyRaises.trans (h : OnlyRaises s t) (h' : OnlyRaises t u) : OnlyRaises s u :=
  ⟨h.latches.trans h'.latches⟩

/-- A change that leaves the latches, made before. -/
theorem OnlyRaises.after (h : OnlyRaises t u) (hp : t.play.latches = s.play.latches) : OnlyRaises s u :=
  .trans (.same hp) h

theorem OnlyRaises.latched (l : Latch) (h : t.play = s.play.latch l) : OnlyRaises s t := ⟨.raised _ (by rw [h]; rfl)⟩

theorem onlyRaises_act {f : Env → Play → Play} (h : LatchesKept s.play (f s.toEnv s.play)) : OnlyRaises s (s.act f) :=
  ⟨h.trans (latchesKept_settle _ _ _)⟩

/-- An effect on playing that leaves the latches alone. -/
theorem onlyRaises_act_latches {f : Env → Play → Play} (h : (f s.toEnv s.play).latches = s.play.latches) :
    OnlyRaises s (s.act f) := onlyRaises_act (.of_latches h)

end

section
variable (s : State)

/-! ### The chest chain -/

theorem onlyRaises_payAnswer : OnlyRaises s s.payAnswer := by
  unfold State.payAnswer
  split <;> exact .same rfl

/-- R15: a closing sequence with no survey behind it raises CHAIN. -/
theorem onlyRaises_closingDone : OnlyRaises s s.closingDone := by
  unfold State.closingDone
  split
  · refine .trans ?_ (onlyRaises_payAnswer _)
    exact ⟨latchesKept_closeTables _ _ _⟩
  · exact .refl s

theorem onlyRaises_resetShiftDone : OnlyRaises s s.resetShiftDone := by
  unfold State.resetShiftDone
  split
  · refine .trans ?_ (onlyRaises_payAnswer _)
    exact .same rfl
  · exact .refl s

theorem onlyRaises_compareRunning (ret : ChestImage) : OnlyRaises s (s.compareRunning ret) := by
  unfold State.compareRunning
  simp only
  split
  · exact .same rfl
  · split
    · exact ⟨(latchesKept_faultTables _ _).latches_left rfl⟩
    · exact .same rfl

/-- R24: the chain's recovery raises CHAIN. -/
theorem onlyRaises_compareFault (ret : ChestImage) : OnlyRaises s (s.compareFault ret) := by
  unfold State.compareFault
  split
  · exact .same rfl
  · split
    · split
      · exact .latched .chain rfl
      · exact .same rfl
    · exact .refl s

theorem onlyRaises_compare (ret : ChestImage) : OnlyRaises s (s.compare ret) := by
  unfold State.compare
  split
  · exact onlyRaises_compareRunning s ret
  · exact onlyRaises_compareFault s ret
  · exact .refl s

theorem onlyRaises_deliverSense (bits : SenseImage) : OnlyRaises s (s.deliverSense bits) := by
  unfold State.deliverSense
  refine .after (t := { s with chain := { s.chain with sense := some (bits &&& s.organ.senseMask) } }) ?_ rfl
  refine onlyRaises_act ?_
  exact latchesKept_senseRead _ _ _

/-- A completed scan, in either order of its comparison and its sense read (log 19). -/
theorem onlyRaises_completeScan (image ret : ChestImage) (bits : SenseImage) :
    OnlyRaises s (s.completeScan image ret bits) := by
  have latched (t : State) : OnlyRaises t (t.latchImage image) := .same rfl
  have compareFirst := ((onlyRaises_compare s ret).trans (onlyRaises_deliverSense _ bits)).trans (latched _)
  unfold State.completeScan
  split
  · split
    · exact ((onlyRaises_deliverSense s bits).trans (onlyRaises_compare _ ret)).trans (latched _)
    · exact compareFirst
  · exact compareFirst

/-! ### Listening and matching -/

/-- R94: a change of the behaviour raises MATCH MODE. -/
theorem onlyRaises_deriveBehaviour : OnlyRaises s s.deriveBehaviour := by
  have taken (held : List (Nat × Candidate)) (t : State) : OnlyRaises t (t.takeCandidates held) := by
    induction held generalizing t with
    | nil => exact .refl t
    | cons x rest ih =>
      refine .trans ?_ (ih _)
      exact onlyRaises_act (latchesKept_takeFirstArrival _ _ _ _)
  unfold State.deriveBehaviour
  simp only
  split
  · exact .refl s
  · refine .trans ?_ (taken _ _)
    exact ⟨.raised _ rfl⟩

theorem onlyRaises_setListening (l : Listening) : OnlyRaises s (s.setListening l) :=
  (onlyRaises_deriveBehaviour _).after rfl

theorem onlyRaises_putMatch (mode : MatchMode) (merge : Nat) : OnlyRaises s (s.putMatch mode merge) :=
  (onlyRaises_deriveBehaviour _).after rfl

theorem onlyRaises_completeFrame (i low high : Nat) : OnlyRaises s (s.completeFrame i low high) := by
  have reports (u : State) (c d : Nat) (r r' : Report) :
      OnlyRaises u ((u.act (fun e p => takeReport e c r p)).act (fun e p => takeReport e d r' p)) :=
    (onlyRaises_act (latchesKept_takeReport _ _ _ _)).trans (onlyRaises_act (latchesKept_takeReport _ _ _ _))
  unfold State.completeFrame
  simp only
  split <;> exact (reports _ _ _ _ _).after rfl

/-- R69: the first pair of an input raises MICROPHONE. -/
theorem onlyRaises_takePair (i : Nat) (a : AudioInput) (low high : Sample) : OnlyRaises s (s.takePair i a low high) := by
  have latched (t : State) : OnlyRaises t (if a.present then t else { t with play := t.play.latch .microphone }) := by
    split
    · exact .refl t
    · exact .latched .microphone rfl
  unfold State.takePair
  simp only
  split
  · exact ((onlyRaises_setListening s _).trans (latched _)).trans (onlyRaises_completeFrame _ _ _ _)
  · exact (onlyRaises_setListening s _).trans (latched _)

/-- R70: the loss of an input raises MICROPHONE. -/
theorem onlyRaises_loseInput (i : Nat) :
    OnlyRaises s ({ s with play := s.play.latch .microphone }.setListening (s.listening.loseInput i)) :=
  .trans (.latched .microphone rfl) (onlyRaises_setListening _ _)

end

/-! ### Requests carried out -/

section
variable {s : State}

theorem onlyRaises_reject (code : Nat) (r : Reason) (d : Nat) : OnlyRaises s (s.reject code r d) := .same rfl

theorem onlyRaises_tested {carry : State → State} (code : Nat) (test : Option (Reason × Nat))
    (h : OnlyRaises s (carry s)) : OnlyRaises s (s.tested code test carry) := by
  cases test with
  | none => exact h
  | some x => exact onlyRaises_reject code x.1 x.2

theorem onlyRaises_replyClosing (code : Nat) (body : List Byte) : OnlyRaises s (s.replyClosing code body) := by
  unfold State.replyClosing
  split <;> exact .same rfl

theorem onlyRaises_takeSurvey : OnlyRaises s s.takeSurvey := by
  unfold State.takeSurvey
  split
  · exact .same rfl
  · split <;> exact .same rfl

theorem onlyRaises_act_reply {f : Env → Play → Play} (h : LatchesKept s.play (f s.toEnv s.play)) (code : Nat)
    (body : List Byte) : OnlyRaises s ((s.act f).reply code body) := (onlyRaises_act h).trans (.same rfl)

theorem onlyRaises_carryKeyRelease (which : KeyRef) : OnlyRaises s (carryKeyRelease which s) := by
  have released (slot : Option Nat) : OnlyRaises s (s.releaseSlot slot) := by
    unfold State.releaseSlot
    split
    · exact onlyRaises_reject _ _ _
    · exact onlyRaises_act_reply (.of_latches (retire_latches _ _ _)) _ _
  unfold carryKeyRelease
  split
  · split
    · exact onlyRaises_reject _ _ _
    · exact released _
  · split
    · exact onlyRaises_reject _ _ _
    · exact released _
  · exact onlyRaises_reject _ _ _

theorem onlyRaises_carryStopsApply (registration : Nat) : OnlyRaises s (carryStopsApply registration s) := by
  unfold carryStopsApply
  split
  · exact onlyRaises_reject _ _ _
  · split
    · exact onlyRaises_reject _ _ _
    · exact onlyRaises_act_reply (latchesKept_requestApply _ _ _ _) _ _

/-- What carrying a request out does to the latches: only EVENTS ACK clears any (R202). -/
theorem onlyRaises_carryOut {c : Instr} (hc : ∀ set, c ≠ .eventsAck set) (s : State) : OnlyRaises s (carryOut c s) := by
  cases c with
  | eventsAck set => exact absurd rfl (hc set)
  | eventsForce set =>
    simp only [carryOut, carryEventsForce]
    refine onlyRaises_tested _ _ ?_
    exact ⟨.raised (latchesNamed set) rfl⟩
  | divisionPut division rec =>
    simp only [carryOut, carryDivisionPut]
    refine onlyRaises_tested _ _ ?_
    exact .after (t := s.describe division (some (storedDivision rec))) (onlyRaises_replyClosing _ _) rfl
  | divisionClear division =>
    simp only [carryOut, carryDivisionClear]
    refine onlyRaises_tested _ _ ?_
    exact .after (t := (s.describe division none).clearVerdict division) (onlyRaises_replyClosing _ _) rfl
  | survey => exact onlyRaises_tested _ _ onlyRaises_takeSurvey
  | micPut channel params =>
    simp only [carryOut, carryMicPut]
    refine onlyRaises_tested _ _ ?_
    refine .trans (onlyRaises_setListening s { s.listening with
      channels := s.listening.channels.modify channel (fun ch => ch.withParams (storedMic params)) }) ?_
    exact .same rfl
  | matchPut mode mergeWindow =>
    simp only [carryOut, carryMatchPut]
    split
    · exact onlyRaises_reject _ _ _
    · exact (onlyRaises_putMatch s _ _).trans (.same rfl)
  | trackPut params => exact onlyRaises_act_reply (.of_latches (putTrack_latches _ _ _)) _ _
  | play index startMode =>
    simp only [carryOut, carryPlay]
    refine onlyRaises_tested _ _ ?_
    unfold State.playItem
    split
    · exact .refl s
    · exact onlyRaises_act_reply (latchesKept_startItem _ _ _ _ _ _ _) _ _
  | stopItem =>
    simp only [carryOut, carryStopItem]
    split
    · exact onlyRaises_reject _ _ _
    · exact onlyRaises_act_reply (latchesKept_pressStop _) _ _
  | cancelAll => exact onlyRaises_act_reply (latchesKept_cancelAll _) _ _
  | readerPut horizon => exact onlyRaises_act_reply (.of_latches (putHorizon_latches _ _ _)) _ _
  | keyRelease which => exact onlyRaises_carryKeyRelease which
  | stopsApply registration => exact onlyRaises_carryStopsApply registration
  | eventsMask | tuneOpen | itemPut | itemReplace | itemRemove | regPut | keySound =>
    simp only [carryOut, carryEventsMask, carryTuneOpen, carryItemPut, carryItemReplace, carryItemRemove, carryRegPut,
      carryKeySound]
    refine onlyRaises_tested _ _ ?_
    exact .same rfl
  | countersRead | organPut | divisionQuery | tuneData | tuneAbort | tuneRetire | tuneQuery | itemQuery | regQuery
  | micQuery | trackQuery | keyLookup | keyList | keyHold | stopsQuery | swellPut =>
    simp only [carryOut, carryCountersRead, carryOrganPut, carryDivisionQuery, carryTuneData, carryTuneAbort,
      carryTuneRetire, carryTuneQuery, carryItemQuery, carryRegQuery, carryMicQuery, carryTrackQuery, carryKeyLookup,
      State.answerLookup, carryKeyList, carryKeyHold, carryStopsQuery, carrySwellPut]
    repeat' split
    all_goals exact .same rfl
  | _ => exact .same rfl

end

end Sys2Proof.Machine
end

section
/-! PROOF (O12). A latch that is set stays set until an EVENTS ACK that names it is taken, or a reset (R202): the line
byte by byte, and then every command. -/

namespace Sys2Proof.Machine

/-- Latch l is set. -/
def HoldsLatch (l : Nat) (s : State) : Prop := s.play.latches.getLsbD l = true

/-- EVENTS ACK with this set leaves latch l set: it does not name it, or it is refused. -/
def SparesLatch (l : Nat) (set : BitVec 24) : Prop := set.toNat < 2 ^ 19 → set.getLsbD l = false

section
variable {l : Nat} {s t : State}

theorem HoldsLatch.kept (hl : HoldsLatch l s) (h : OnlyRaises s t) : HoldsLatch l t := h.latches.kept l hl

theorem HoldsLatch.lt (hl : HoldsLatch l s) : l < 19 := by
  by_contra h
  rw [HoldsLatch, BitVec.getLsbD_of_ge _ _ (not_lt.mp h)] at hl
  cases hl

/-! ### EVENTS ACK and EVENTS READ -/

/-- What an EVENTS ACK that is carried out leaves of a latch that it spares. -/
theorem HoldsLatch.carryEventsAck {set : BitVec 24} (hl : HoldsLatch l s) (hset : SparesLatch l set) :
    HoldsLatch l (carryEventsAck set s) := by
  unfold Sys2Proof.Machine.carryEventsAck latchTest namesOnlyLatches
  by_cases h : set.toNat < 2 ^ 19
  · rw [decide_eq_true h]
    show (s.play.latches &&& ~~~ latchesNamed set).getLsbD l = true
    have hnamed : (latchesNamed set).getLsbD l = false := by
      rw [latchesNamed, BitVec.getLsbD_setWidth, hset h, Bool.and_false]
    rw [BitVec.getLsbD_and, BitVec.getLsbD_not, hl, hnamed, decide_eq_true hl.lt]
    rfl
  · rw [decide_eq_false h]
    exact hl

theorem HoldsLatch.carryOut {c : Instr} (hl : HoldsLatch l s) (hc : ∀ set, c = .eventsAck set → SparesLatch l set) :
    HoldsLatch l (carryOut c s) := by
  by_cases hack : ∃ set, c = .eventsAck set
  · obtain ⟨set, rfl⟩ := hack
    exact hl.carryEventsAck (hc set rfl)
  · exact hl.kept (onlyRaises_carryOut (fun set h => hack ⟨set, h⟩) s)

/-! ### The line -/

theorem onlyRaises_whileBusy (s : State) (a : Answer) (counts : Bool) : OnlyRaises s (s.whileBusy a counts) := by
  unfold State.whileBusy
  split
  · exact .same rfl
  · cases counts <;> exact .same rfl

theorem onlyRaises_hunt_whileBusy (s : State) (a : Answer) (counts : Bool) :
    OnlyRaises s (s.hunt.whileBusy a counts) := (onlyRaises_whileBusy _ _ _).after rfl

theorem onlyRaises_refuseFrame (s : State) (code : Nat) (r : Reason) (d : Nat) :
    OnlyRaises s (s.refuseFrame code r d) := by
  unfold State.refuseFrame
  simp only
  split
  · exact onlyRaises_hunt_whileBusy _ _ _
  · split <;> exact .same rfl

theorem HoldsLatch.acceptFrame {c : Instr} (hl : HoldsLatch l s) (code : Nat)
    (hc : s.link.busy = false → ∀ set, c = .eventsAck set → SparesLatch l set) :
    HoldsLatch l (s.acceptFrame code (Machine.carryOut c)) := by
  cases hb : s.link.busy with
  | true =>
    rw [State.acceptFrame, if_pos hb]
    exact hl.kept (onlyRaises_hunt_whileBusy s _ _)
  | false =>
    rw [State.acceptFrame_free hb]
    exact HoldsLatch.carryOut (s := s.hunt) hl (hc hb)

theorem HoldsLatch.takeFrame {f : RawFrame} (hl : HoldsLatch l s)
    (hc : s.link.busy = false → ∀ set, examine f = .request (.eventsAck set) → SparesLatch l set) :
    HoldsLatch l (s.takeFrame f) := by
  cases h : refusalOf f with
  | some x =>
    rw [State.takeFrame_refused h]
    exact hl.kept (onlyRaises_refuseFrame s _ _ _)
  | none =>
    obtain ⟨c, hf⟩ := examine_of_passing h
    rw [State.takeFrame_request hf]
    refine hl.acceptFrame _ fun hb set hset => hc hb set ?_
    rw [hf, hset]

/-- A byte of the line clears a latch only by completing an EVENTS ACK on a free link. -/
theorem HoldsLatch.receive (hl : HoldsLatch l s) (b : Byte)
    (hc : s.link.busy = false → s.link.receiver.state = .check → ∀ set,
      examine { bytes := s.link.receiver.bytes, check := b } = .request (.eventsAck set) → SparesLatch l set) :
    HoldsLatch l (s.receive b) := by
  cases hs : s.link.receiver.state with
  | hunt =>
    rw [State.receive_hunt b hs]
    split <;> exact hl
  | length =>
    rw [State.receive_length b hs]
    split
    · exact hl
    · exact hl.kept (onlyRaises_refuseFrame s _ _ _)
  | body =>
    rw [State.receive_body b hs]
    exact hl
  | check =>
    rw [State.receive_check b hs]
    exact hl.takeFrame fun hb => hc hb hs

/-- Bytes of the line, of which none completes an EVENTS ACK that names the latch. -/
theorem HoldsLatch.receiveBytes (hl : HoldsLatch l s) (bytes : List Byte)
    (hc : ∀ before b after u, bytes = before ++ b :: after → u = before.foldl (fun t b => t.receive b) s →
      u.link.busy = false → u.link.receiver.state = .check → ∀ set,
      examine { bytes := u.link.receiver.bytes, check := b } = .request (.eventsAck set) → SparesLatch l set) :
    HoldsLatch l (bytes.foldl (fun t b => t.receive b) s) := by
  induction bytes generalizing s with
  | nil => exact hl
  | cons b bytes ih =>
    refine ih (hl.receive b (hc [] b bytes s rfl rfl)) fun before b' after u hbytes hu => ?_
    refine hc (b :: before) b' after u ?_ hu
    rw [hbytes]
    rfl

/-- The bytes of a command that brings them one by one. -/
theorem HoldsLatch.arrivesAs {c : Instr} {bytes : List Byte} (hl : HoldsLatch l s) (ha : ArrivesAs s c bytes)
    (hc : ∀ set, AckTaken s c set → SparesLatch l set) : HoldsLatch l (bytes.foldl (fun t b => t.receive b) s) :=
  hl.receiveBytes bytes fun before b after u hbytes hu hfree hs set hset =>
    hc set (.inr ⟨before, b, after, u, hbytes ▸ ha, hu, hfree, hs, hset⟩)

end

/-! ### Commands -/

section
variable {c : Instr} {l : Nat} {s t : State} (ht : exec c s = .next t) (hl : HoldsLatch l s)
include ht hl

theorem holdsLatch_event {f : State → State} (hc : exec c s = .next (s.event f)) (h : OnlyRaises s (f s)) :
    HoldsLatch l t := by
  rw [hc] at ht
  cases ht
  unfold State.event
  split
  · exact hl
  · exact hl.kept h

/-- An event with one guard. -/
theorem holdsLatch_guarded {b : State → Prop} [DecidablePred b] {f : State → State}
    (hc : exec c s = .next (s.event (fun s => if b s then f s else s))) (h : OnlyRaises s (f s)) :
    HoldsLatch l t := by
  refine holdsLatch_event ht hl hc ?_
  show OnlyRaises s (if b s then f s else s)
  split
  · exact h
  · exact .refl s

theorem holdsLatch_act {f : Env → Play → Play} (hc : exec c s = .next (s.event (fun s => s.act f)))
    (h : LatchesKept s.play (f s.toEnv s.play)) : HoldsLatch l t :=
  holdsLatch_event ht hl hc (onlyRaises_act h)

variable (hack : ∀ set, AckTaken s c set → SparesLatch l set)
include hack

/-- A frame that finds the receiver keeping part of another. -/
theorem holdsLatch_arrivingBytes {f : RawFrame} (hr : s.inReset = false) (hf : ¬ FrameCompletes s.link.receiver f)
    (hc : (∃ code body, writeRequest c = some (code, body) ∧ f = frameOf code body) ∨
      (c = .frameRejected f ∧ refusalOf f ≠ none) ∨ (c = .frameWhileBusy f ∧ s.link.busy = true)) : HoldsLatch l t := by
  rw [exec_arrivingBytes hr hf hc] at ht
  cases ht
  exact hl.arrivesAs (.inr ⟨f, hf, rfl, hc⟩) hack

theorem holdsLatch_request {code : Nat} {body : List Byte} (hw : writeRequest c = some (code, body)) :
    HoldsLatch l t := by
  cases hr : s.inReset with
  | true =>
    rw [exec_request_inReset hw hr] at ht
    cases ht
    exact hl
  | false =>
    by_cases hf : FrameCompletes s.link.receiver (frameOf code body)
    · rw [exec_request_completes hw hr hf] at ht
      cases ht
      exact hl.acceptFrame _ fun hb set hset => hack set (.inl ⟨hset, hb, code, body, hw, hf⟩)
    · exact holdsLatch_arrivingBytes ht hl hack hr hf (.inl ⟨code, body, hw, rfl⟩)

end

section
variable {l : Nat} {s t : State} (hl : HoldsLatch l s)
include hl

theorem holdsLatch_partialFrameByte {c : Character} (ht : exec (.partialFrameByte c) s = .next t)
    (hack : ∀ set, AckTaken s (.partialFrameByte c) set → SparesLatch l set) : HoldsLatch l t := by
  obtain ⟨b, stop⟩ := c
  cases stop with
  | false =>
    rw [exec_partialFrameByte_discarded] at ht
    cases ht
    exact hl
  | true =>
    cases hr : s.inReset with
    | true =>
      rw [exec_event_inReset rfl hr] at ht
      cases ht
      exact hl
    | false =>
      have hc : exec (.partialFrameByte { data := b, stop := true }) s = .next (s.receive b) := exec_partialFrameByte hr b
      rw [hc] at ht
      cases ht
      exact hl.arrivesAs (.inl ⟨b, rfl, rfl⟩) hack

theorem holdsLatch_frameRejected {f : RawFrame} (ht : exec (.frameRejected f) s = .next t)
    (hack : ∀ set, AckTaken s (.frameRejected f) set → SparesLatch l set) : HoldsLatch l t := by
  cases h : refusalOf f with
  | none =>
    rw [exec_frameRejected_passing h] at ht
    cases ht
    exact hl
  | some x =>
    cases hr : s.inReset with
    | true =>
      rw [exec_event_inReset rfl hr] at ht
      cases ht
      exact hl
    | false =>
      by_cases hf : FrameCompletes s.link.receiver f
      · rw [exec_failingFrame hr hf h (.inl rfl)] at ht
        cases ht
        exact hl.kept (onlyRaises_refuseFrame s _ _ _)
      · exact holdsLatch_arrivingBytes ht hl hack hr hf (.inr (.inl ⟨rfl, by rw [h]; simp⟩))

theorem holdsLatch_frameWhileBusy {f : RawFrame} (ht : exec (.frameWhileBusy f) s = .next t)
    (hack : ∀ set, AckTaken s (.frameWhileBusy f) set → SparesLatch l set) : HoldsLatch l t := by
  cases hb : s.link.busy with
  | false =>
    rw [exec_frameWhileBusy_free hb] at ht
    cases ht
    exact hl
  | true =>
    cases hr : s.inReset with
    | true =>
      rw [exec_event_inReset rfl hr] at ht
      cases ht
      exact hl
    | false =>
      by_cases hf : FrameCompletes s.link.receiver f
      · rw [exec_frameWhileBusy hr hb, State.arrive_completes hf] at ht
        cases ht
        exact hl.takeFrame fun hfree => absurd hb (ne_true_of_eq_false hfree)
      · exact holdsLatch_arrivingBytes ht hl hack hr hf (.inr (.inr ⟨rfl, hb⟩))

/-- The end of an answer other than RESET's reply. -/
theorem holdsLatch_answerSent {r : Bool} (ht : exec (.answerSent r) s = .next t) (hp : s.link.resetPending = false) :
    HoldsLatch l t := by
  refine holdsLatch_event ht hl rfl (.same ?_)
  unfold State.sent
  rw [hp]
  repeat' split
  · rfl
  · cases ‹false = true›
  · rfl
  · rfl

end

/-- R202: what every command leaves of a latch. -/
theorem holdsLatch_exec {c : Instr} {l : Nat} {s t : State} (ht : exec c s = .next t) (hpower : c ≠ .powerReset)
    (hpin : c ≠ .pinReset) (hsent : ∀ r, c = .answerSent r → s.link.resetPending = false) (hl : HoldsLatch l s)
    (hack : ∀ set, AckTaken s c set → SparesLatch l set) : HoldsLatch l t := by
  cases c with
  | powerReset => exact absurd rfl hpower
  | pinReset => exact absurd rfl hpin
  | resetEnd r =>
    cases ht
    split
    · exact hl.kept (.latched .reset rfl)
    · exact hl
  | partialFrameByte c => exact holdsLatch_partialFrameByte hl ht hack
  | frameRejected f => exact holdsLatch_frameRejected hl ht hack
  | frameWhileBusy f => exact holdsLatch_frameWhileBusy hl ht hack
  | answerSent r => exact holdsLatch_answerSent hl ht (hsent r rfl)
  | closingSequenceComplete => exact holdsLatch_event ht hl rfl (onlyRaises_closingDone s)
  | resetClearingShiftComplete => exact holdsLatch_event ht hl rfl (onlyRaises_resetShiftDone s)
  | surveyReturn | surveyNoReturn => exact holdsLatch_guarded ht hl rfl (.latched .chain rfl)
  | scanComplete returned sense =>
    refine holdsLatch_event ht hl rfl ?_
    split
    · exact onlyRaises_completeScan s _ _ _
    · exact .refl s
  | validationSuccess =>
    refine holdsLatch_event ht hl rfl ?_
    split
    · exact .refl s
    · split
      · exact .latched .loadDone rfl
      · exact .refl s
  | validationFailure =>
    refine holdsLatch_event ht hl rfl ?_
    split
    · exact .refl s
    · split
      · exact .refl s
      · exact .latched .loadFailed rfl
  | samplePairComplete input low high =>
    refine holdsLatch_event ht hl rfl ?_
    split
    · exact onlyRaises_takePair s _ _ _ _
    · exact .refl s
  | inputLost input => exact holdsLatch_guarded ht hl rfl (onlyRaises_loseInput _ input)
  | frameGapExpiry | scanStart | lastOnsetExpiry | lastReleaseExpiry | lastMatchedAnchorExpiry | referenceTimeExpiry
  | lastCueExpiry | applyTickExpiry | swellUpdate | swellPeriodStart =>
    exact holdsLatch_guarded ht hl rfl (.same rfl)
  | matchedTimeExpiry i => exact holdsLatch_event ht hl rfl (.same (forgetMatchedTime_latches _ i _))
  | cueContactClosed b => exact holdsLatch_event ht hl rfl (.same (setCue_latches _ b _))
  | cueContactOpened b => exact holdsLatch_event ht hl rfl (.same (setCue_latches _ b _))
  | candidateExpiry c => exact holdsLatch_act ht hl rfl (.of_latches (expireCandidate_latches _ _ c))
  | windowCloseExpiry => exact holdsLatch_act ht hl rfl (latchesKept_takeWindowClose _ _)
  | rebase => exact holdsLatch_act ht hl rfl (.guarded (.of_latches (rebaseNow_latches _ _)))
  | fermataExpiry => exact holdsLatch_act ht hl rfl (latchesKept_takeFermata _ _)
  | maximumEndExpiry => exact holdsLatch_act ht hl rfl (.guarded (latchesKept_endHold _ _))
  | gapEnd => exact holdsLatch_act ht hl rfl (.guarded (latchesKept_startSection _ _))
  | schedulingExpiry => exact holdsLatch_act ht hl rfl (latchesKept_schedule _ _)
  | onTimeExpiry i => exact holdsLatch_act ht hl rfl (.of_latches (takeOnTime_latches _ i _))
  | offTimeExpiry i => exact holdsLatch_act ht hl rfl (.of_latches (takeOffTime_latches _ i _))
  | deadlineExpiry i => exact holdsLatch_act ht hl rfl (latchesKept_takeDeadline _ i _)
  | cueDebounceExpiry b => exact holdsLatch_act ht hl rfl (latchesKept_debounce _ _ b)
  | pulseEndExpiry d i => exact holdsLatch_act ht hl rfl (.of_latches (endPulse_latches _ _ d i))
  | stopTimeoutExpiry d i => exact holdsLatch_act ht hl rfl (latchesKept_timeOutStop _ _ d i)
  | _ => exact holdsLatch_request ht hl hack rfl

section
variable {s : State} (h : Ready s)
include h

theorem exec_eventsRead : exec .eventsRead s = .next { s with
    link := replyLink s 0x40
      (putNum 3 s.play.latches.toNat ++ putNum 3 s.link.mask.toNat ++ putNum 1 s.attn.toNat) } := by
  rw [exec_request_ready rfl h]
  rfl

theorem exec_eventsAck (set : BitVec 24) : exec (.eventsAck set) s = .next (
    if 2 ^ 19 ≤ set.toNat then { s with link := rejectLink s 0x41 .badArgument 0 }
    else { s with
      play := { s.play with latches := s.play.latches &&& ~~~ (set.setWidth 19) }
      link := replyLink s 0x41 (putNum 3 s.play.latches.toNat ++
        putNum 3 (s.play.latches &&& ~~~ (set.setWidth 19)).toNat) }) := by
  rw [exec_request_ready rfl h, carryOut, carryEventsAck, hunt_tested_latchTest]
  rfl

end

/-- Settles O12: what every command leaves of a latch, and the two requests in one equation each. -/
theorem latchesStayUntilAcknowledged : Obligations.LatchesStayUntilAcknowledged :=
  ⟨fun _ _ _ ht hpower hpin hsent _ hl hack => holdsLatch_exec ht hpower hpin hsent hl hack,
    fun _ h => exec_eventsRead h, fun _ set h => exec_eventsAck h set⟩

end Sys2Proof.Machine
end
